-- ==== Sys2Proof/Word.lean ====
section
/-! DEFINITION. The widths of DSDEC's values (spec/00_scope.md R5, R6): bit 0 is the least significant bit of every value. -/

namespace Sys2Proof

/-- One byte: a colour channel, or one byte of the table (R5). -/
abbrev Byte := BitVec 8

/-- A command word, the value written to `CMD` (R60). -/
abbrev Word := BitVec 16

/-- The width of `OPERAND`, `RESULT` and `PROGRESS` (R11). -/
abbrev Word24 := BitVec 24

/-- A decoded depth (R16). -/
abbrev Depth := BitVec 16

end Sys2Proof
end

