-- ==== Sys2Proof/Syntax.lean ====
section
/-! DEFINITION. The command set: one constructor for each row of spec/opcode_table.json (spec/30_encoding.md R60 to R69). -/

namespace Sys2Proof

/-- AlgorithmId, the closed set of seven variants (R2, R63). -/
inductive AlgorithmId where
  | hilbert | triangle | morton | packed | split | phase | hue
deriving DecidableEq, Repr

/-- A command. `q` is the `Q` field (`quantization`), `ab` the `AB` field (`algoBits`), `sel` the `SEL` field where
the row's encoding leaves it open. A field that the command does not use is kept, since acceptance latches it
(R24, R69). -/
inductive Instr where
  | menc (sel : BitVec 3) (q : BitVec 5) (ab : BitVec 4)
  | mench (sel : BitVec 3) (q : BitVec 5) (ab : BitVec 4)
  | mdec (sel : BitVec 3) (q : BitVec 5) (ab : BitVec 4)
  | mdech (sel : BitVec 3) (q : BitVec 5) (ab : BitVec 4)
  | hto (sel : BitVec 3) (q : BitVec 5) (ab : BitVec 4)
  | hfrom (sel : BitVec 3) (q : BitVec 5) (ab : BitVec 4)
  | decodeHilbert (q : BitVec 5) (ab : BitVec 4)
  | decodeTriangle (q : BitVec 5) (ab : BitVec 4)
  | decodeMorton (q : BitVec 5) (ab : BitVec 4)
  | decodePacked (q : BitVec 5) (ab : BitVec 4)
  | decodeSplit (q : BitVec 5) (ab : BitVec 4)
  | decodePhase (q : BitVec 5) (ab : BitVec 4)
  | decodeHue (q : BitVec 5) (ab : BitVec 4)
  | build (sel : BitVec 3) (q : BitVec 5) (ab : BitVec 4)
  | abort (sel : BitVec 3) (q : BitVec 5) (ab : BitVec 4)
deriving DecidableEq, Repr

end Sys2Proof
end

