-- ==== Sys2Proof/Decode.lean ====
section
/-! DEFINITION. The decoder, total on every 16-bit word, and the encoder (spec/30_encoding.md R61 to R63, R68, R69 and
its section 7). -/

namespace Sys2Proof

/-- `OP`, bits 15:12 (R61). -/
def opField (w : Word) : BitVec 4 := w.extractLsb' 12 4

/-- `SEL`, bits 11:9 (R61). -/
def selField (w : Word) : BitVec 3 := w.extractLsb' 9 3

/-- `Q`, bits 8:4 (R61). -/
def qField (w : Word) : BitVec 5 := w.extractLsb' 4 5

/-- `AB`, bits 3:0 (R61). -/
def abField (w : Word) : BitVec 4 := w.extractLsb' 0 4

/-- The word with the four given fields (R61). -/
def commandWord (op : BitVec 4) (sel : BitVec 3) (q : BitVec 5) (ab : BitVec 4) : Word :=
  (op ++ sel ++ q ++ ab : BitVec (4 + 3 + 5 + 4))

/-- Why a word is no row of the opcode table. -/
inductive DecodeError where
  /-- `OP` is 0x0 or 0xA to 0xF: it selects no operation (R154). -/
  | illegalCommand
  /-- `OP` is DECODE and `SEL` is 7: no AlgorithmId (R153). -/
  | unknownAlgorithm
deriving DecidableEq, Repr

/-- The DECODE row that `SEL` selects (R63). -/
def decodeLane (sel : BitVec 3) (q : BitVec 5) (ab : BitVec 4) : Except DecodeError Instr :=
  match sel.toNat with
  | 0 => .ok (.decodeHilbert q ab)
  | 1 => .ok (.decodeTriangle q ab)
  | 2 => .ok (.decodeMorton q ab)
  | 3 => .ok (.decodePacked q ab)
  | 4 => .ok (.decodeSplit q ab)
  | 5 => .ok (.decodePhase q ab)
  | 6 => .ok (.decodeHue q ab)
  | _ => .error .unknownAlgorithm

/-- The command that a word is, or why it is none (R62, R68). -/
def decodeWord (w : Word) : Except DecodeError Instr :=
  let sel := selField w
  let q := qField w
  let ab := abField w
  match (opField w).toNat with
  | 1 => .ok (.menc sel q ab)
  | 2 => .ok (.mench sel q ab)
  | 3 => .ok (.mdec sel q ab)
  | 4 => .ok (.mdech sel q ab)
  | 5 => .ok (.hto sel q ab)
  | 6 => .ok (.hfrom sel q ab)
  | 7 => decodeLane sel q ab
  | 8 => .ok (.build sel q ab)
  | 9 => .ok (.abort sel q ab)
  | _ => .error .illegalCommand

/-- The host's question: the command that the decoder reads from the low 16 bits of `w`, of which only the low
`nbits` are the table's. A command is one value, not bytes in memory (R50, R60). -/
def decodeTableWord (nbits w : Nat) : Option Instr :=
  match decodeWord (BitVec.ofNat 16 (w % 2 ^ nbits)) with
  | .ok i => some i
  | .error _ => none

/-- The word of a command (R61, R62, R63 and the table of section 7). -/
def encode : Instr → Word
  | .menc sel q ab => commandWord 0x1#4 sel q ab
  | .mench sel q ab => commandWord 0x2#4 sel q ab
  | .mdec sel q ab => commandWord 0x3#4 sel q ab
  | .mdech sel q ab => commandWord 0x4#4 sel q ab
  | .hto sel q ab => commandWord 0x5#4 sel q ab
  | .hfrom sel q ab => commandWord 0x6#4 sel q ab
  | .decodeHilbert q ab => commandWord 0x7#4 0#3 q ab
  | .decodeTriangle q ab => commandWord 0x7#4 1#3 q ab
  | .decodeMorton q ab => commandWord 0x7#4 2#3 q ab
  | .decodePacked q ab => commandWord 0x7#4 3#3 q ab
  | .decodeSplit q ab => commandWord 0x7#4 4#3 q ab
  | .decodePhase q ab => commandWord 0x7#4 5#3 q ab
  | .decodeHue q ab => commandWord 0x7#4 6#3 q ab
  | .build sel q ab => commandWord 0x8#4 sel q ab
  | .abort sel q ab => commandWord 0x9#4 sel q ab

end Sys2Proof
end

