-- ==== Sys2Proof/Config.lean ====
section
/-! DEFINITION. What is fixed for one DSDEC (spec/00_scope.md R5) and the values the spec leaves open. The opaque
constants have no body: no statement can rest on a value of theirs. -/

namespace Sys2Proof

/-- `TBL_N`: the table's extent on each axis, channel values 0 to 254 (R5, R46). -/
def Config.tblN : Nat := 255

/-- `TBL_BYTES` = 255·255·255·3 (R5, R25, R40). -/
def Config.tblBytes : Nat := 49744125

/-- `TBL_init`: the byte that address `addr` of the table holds at power-on, which the spec leaves open
(R5, R27, D34, U8). FREE VALUE, notes/assumptions/5.md. -/
opaque Config.tblInit (addr : Nat) : Byte

/-- The unspecified byte that the `n`-th `TblRead` made while a BUILD is BUSY returns (R42, U7).
FREE VALUE, notes/assumptions/6.md. -/
opaque Config.freeByte (n : Nat) : Byte

end Sys2Proof
end

