-- ==== Sys2Proof/Machine/State.lean ====
section
/-! DEFINITION. The state of DSDEC as plain data: every register, latch and memory that spec/10_state.md names, and
the model's own record of which action moves next. -/

namespace Sys2Proof.Machine

/-- `STATUS.STATE` (R14). The codes 5, 6 and 7 are never produced (notes/assumptions/8.md). -/
inductive RunState where
  | idle | busy | done | error | aborted
deriving DecidableEq, Repr

/-- `STATUS.ERR` (R14, R150). The codes 4 to 7 are never produced (notes/assumptions/8.md). -/
inductive ErrCode where
  | none | configurationError | unknownAlgorithmError | illegalCommand
deriving DecidableEq, Repr

/-- `TBLTAG` (R22): what the table memory holds. -/
structure TblTag where
  valid : Bool
  algo : BitVec 3
  q : BitVec 5
  ab : BitVec 4
deriving DecidableEq, Repr

/-- One atomic action of the interleaving of HOST and SEQ (R7, R8, R10). Numbers are as the host sends them; a write
keeps the low bits that the register has (R13, R47). -/
inductive AgentAction where
  /-- `HostRead(n)`. -/
  | hostRead (n : Nat)
  /-- `HostWrite(n, v)`. -/
  | hostWrite (n v : Nat)
  /-- `TblRead(addr)`. -/
  | tblRead (addr : Nat)
  /-- The reset input `rst` is asserted (R170). -/
  | reset
  /-- SEQ moves. -/
  | seq
deriving DecidableEq, Repr

/-- The table memory: the bytes written since power-on, one entry for each address, addresses strictly rising. An
unlisted address has not been written since power-on (`Memory.unlisted`). -/
abbrev Memory := List Host.Cell

/-- What an unlisted address reads as: its power-on byte, `TBL_init` (R27, R48). -/
def Memory.unlisted (addr : Nat) : Byte := Config.tblInit addr

/-- The entries' addresses rise strictly, are at least `lo`, and lie inside the table. -/
def Memory.risesFrom : Nat → Memory → Bool
  | _, [] => true
  | lo, (addr, _) :: rest => decide (lo ≤ addr) && decide (addr < Config.tblBytes) && risesFrom (addr + 1) rest

/-- The canonical form of the table memory. -/
def Memory.wf (m : Memory) : Bool := m.risesFrom 0

/-- The whole state (spec/10_state.md). The last three fields are the model's own, not the block's. -/
structure State where
  /-- `OPERAND` (R12). -/
  operand : Word24
  /-- `RESULT` (R15). -/
  result : Word24
  /-- `STATUS.STATE` (R14). -/
  run : RunState
  /-- `STATUS.ERR` (R14). -/
  err : ErrCode
  /-- `STATUS.OVR` (R19). -/
  ovr : Bool
  /-- `I` of the sweep counter (R20). -/
  i : Byte
  /-- `J` of the sweep counter (R20). -/
  j : Byte
  /-- `K` of the sweep counter (R20). -/
  k : Byte
  /-- `TBLTAG` (R22). -/
  tag : TblTag
  /-- `ABORT_REQ` (R21). -/
  abortReq : Bool
  /-- `ACT_OP` (R23). -/
  actOp : BitVec 4
  /-- `ACT_SEL` (R23). -/
  actSel : BitVec 3
  /-- `ACT_Q` (R23). -/
  actQ : BitVec 5
  /-- `ACT_AB` (R23). -/
  actAb : BitVec 4
  /-- `ACT_OPND` (R23). -/
  actOpnd : Word24
  /-- `TBL` (R25). -/
  tbl : Memory
  /-- The MODEL's own: the pending actions, the head moves next; when none is pending SEQ moves
  (R8, notes/assumptions/1.md). -/
  agenda : List AgentAction
  /-- The MODEL's own: what the latest host read returned (notes/assumptions/3.md). -/
  reply : Option Word24
  /-- The MODEL's own: how many unspecified bytes have been given out (notes/assumptions/6.md). -/
  freeCount : Nat
deriving DecidableEq, Repr

/-- Why a step faults. -/
inductive Fault where
  /-- Raised by SEQ, and by a meaning asked to make SEQ's step, when `STATE` is BUSY and the `ACT_*` latches do not hold
  that command as acceptance lets it through: no rule gives SEQ a step there (R23, R24, R131, R134, U2). No run from
  reset reaches it. SAFE: the model stops (notes/assumptions/7.md). -/
  | noSequencerStep
deriving DecidableEq, Repr

/-- Why a step is refused. -/
inductive Refusal where
  /-- Raised by `exec` for a command that has no meaning yet. SAFE: the model stops. No arm raises it. -/
  | notModelled (mnemonic : String)
  /-- Raised by `HostRead` and `HostWrite` of a register number above 5: "not an action of this interface: a model
  refuses it" (R11, U12). SAFE (notes/assumptions/12.md). -/
  | noSuchRegister (n : Nat)
  /-- Raised by `TblRead` at or above `TBL_BYTES`: "the action does not exist: a model refuses it" (R42, U12).
  SAFE (notes/assumptions/12.md). -/
  | noSuchTableByte (addr : Nat)
deriving DecidableEq, Repr

/-- The machine right after power-on reset (R27, R171): every register 0, `STATE` IDLE, no table byte written, and
nothing pending. -/
def State.reset : State where
  operand := 0
  result := 0
  run := .idle
  err := .none
  ovr := false
  i := 0
  j := 0
  k := 0
  tag := { valid := false, algo := 0, q := 0, ab := 0 }
  abortReq := false
  actOp := 0
  actSel := 0
  actQ := 0
  actAb := 0
  actOpnd := 0
  tbl := []
  agenda := []
  reply := none
  freeCount := 0

end Sys2Proof.Machine
end

