-- ==== Sys2Proof/Machine/Operands.lean ====
section
/-! DEFINITION. How a command reads its 24-bit operand and packs its result (spec/30_encoding.md R64, R65). -/

namespace Sys2Proof.Machine

/-- Three axis values or three channel values, first to third. -/
structure Axes where
  x : Nat
  y : Nat
  z : Nat
deriving DecidableEq, Repr

/-- The first axis, or channel R: bits 23:16 (R64). -/
def firstOperand (opnd : Word24) : Nat := (opnd.extractLsb' 16 8).toNat

/-- The second axis, or channel G: bits 15:8 (R64). -/
def secondOperand (opnd : Word24) : Nat := (opnd.extractLsb' 8 8).toNat

/-- The third axis, or channel B: bits 7:0 (R64). -/
def thirdOperand (opnd : Word24) : Nat := (opnd.extractLsb' 0 8).toNat

/-- The operand of MDEC, MDECH, HTO and HFROM: three axes (R64). -/
def axesOperand (opnd : Word24) : Axes :=
  { x := firstOperand opnd, y := secondOperand opnd, z := thirdOperand opnd }

/-- The operand of MENC: bits 15:0, bits 23:16 ignored (R64). -/
def value16Operand (opnd : Word24) : Nat := (opnd.extractLsb' 0 16).toNat

/-- The operand of MENCH: all 24 bits (R64). -/
def value24Operand (opnd : Word24) : Nat := opnd.toNat

/-- `{x', y', z'}`, each axis zero-extended to 8 bits: the result of MENC, MENCH, HTO and HFROM (R65). -/
def packAxes (a : Axes) : Word24 :=
  (BitVec.ofNat 8 a.x ++ BitVec.ofNat 8 a.y ++ BitVec.ofNat 8 a.z : BitVec (8 + 8 + 8))

/-- An integer in the low bits of `RESULT`: the result of MDEC and MDECH (R65). -/
def packValue (v : Nat) : Word24 := BitVec.ofNat 24 v

/-- A depth in bits 15:0, bits 23:16 zero: the result of DECODE (R16, R65). -/
def packDepth (d : Depth) : Word24 := d.setWidth 24

end Sys2Proof.Machine
end

