-- ==== Sys2Proof/Machine/Flags.lean ====
section
/-! DEFINITION. The flags of DSDEC: the codes and the views that the host reads (spec/10_state.md R14, R17, R19 to R22). -/

namespace Sys2Proof.Machine

/-- The code of `STATUS.STATE` (R14). -/
def RunState.code : RunState → BitVec 3
  | .idle => 0#3
  | .busy => 1#3
  | .done => 2#3
  | .error => 3#3
  | .aborted => 4#3

/-- The code of `STATUS.ERR` (R14, R150). -/
def ErrCode.code : ErrCode → BitVec 3
  | .none => 0#3
  | .configurationError => 1#3
  | .unknownAlgorithmError => 2#3
  | .illegalCommand => 3#3

/-- The `STATUS` register: bit 7 reserved and 0, `OVR`, `ERR`, `STATE` (R14). -/
def State.status (s : State) : BitVec 8 :=
  (0#1 ++ BitVec.ofBool s.ovr ++ s.err.code ++ s.run.code : BitVec (1 + 1 + 3 + 3))

/-- The `PROGRESS` register, `{I, J, K}` (R17, R20). -/
def State.progress (s : State) : Word24 :=
  (s.i ++ s.j ++ s.k : BitVec (8 + 8 + 8))

/-- The 13 bits of `TBLTAG`: `VALID`, `ALGO`, `Q`, `AB` (R22). -/
def TblTag.bits (t : TblTag) : BitVec 13 :=
  (BitVec.ofBool t.valid ++ t.algo ++ t.q ++ t.ab : BitVec (1 + 3 + 5 + 4))

/-- `OVR` is set: a command was dropped because the block was busy (R19, R155). -/
def State.raiseOvr (s : State) : State := { s with ovr := true }

/-- `OVR` is cleared: `CMD` was written while the block was not busy (R19). -/
def State.clearOvr (s : State) : State := { s with ovr := false }

/-- `ABORT_REQ` is set (R21, R138). -/
def State.requestAbort (s : State) : State := { s with abortReq := true }

/-- `TBLTAG.VALID` is cleared and the other fields keep their value (R22, U10). -/
def State.invalidateTag (s : State) : State := { s with tag := { s.tag with valid := false } }

/-- `TBLTAG` takes the tag of the completed build (R22, R134). -/
def State.writeTag (s : State) : State :=
  { s with tag := { valid := true, algo := s.actSel, q := s.actQ, ab := s.actAb } }

end Sys2Proof.Machine
end

