-- ==== Sys2Proof/Machine/Ops.lean ====
section
/-! DEFINITION. The shared operations: the table memory (spec/20_memory.md), the agenda, the acceptance of a command with
its check and its error entry (spec/30_encoding.md R73, spec/60_exceptions.md), and SEQ's step around a command's rule
(spec/44_table_builder.md). -/

namespace Sys2Proof.Machine

/-! ### The table memory -/

/-- The byte stored at `addr` since power-on, none where nothing has been stored. -/
def Memory.stored : Memory → Nat → Option Byte
  | [], _ => none
  | (addr', b) :: rest, addr => if addr = addr' then some b else Memory.stored rest addr

/-- The byte that the table holds at `addr`: the latest one stored, or the power-on byte (R48). -/
def Memory.read (m : Memory) (addr : Nat) : Byte :=
  match m.stored addr with
  | some b => b
  | none => Memory.unlisted addr

/-- `TblWrite(addr, b)` (R41), which keeps the addresses rising. -/
def Memory.write : Memory → Nat → Byte → Memory
  | [], addr, b => [(addr, b)]
  | (addr', b') :: rest, addr, b =>
    if addr < addr' then (addr, b) :: (addr', b') :: rest
    else if addr = addr' then (addr, b) :: rest
    else (addr', b') :: Memory.write rest addr b

/-- The address of the high byte of cell (i, j, k) (R46). -/
def cellBase (i j k : Nat) : Nat := 3 * (65025 * i + 255 * j + k)

/-- The three bytes of one cell, high, low and padding 0, at its base (R43, R45, R134). -/
def Memory.writeCell (m : Memory) (base : Nat) (depth : Depth) : Memory :=
  ((m.write base (depth.extractLsb' 8 8)).write (base + 1) (depth.extractLsb' 0 8)).write (base + 2) 0#8

/-! ### The agenda -/

/-- The pending host action at the head has been made. -/
def State.consume (s : State) : State := { s with agenda := s.agenda.tail }

/-- SEQ has moved: a pending SEQ move at the head has been made, and a pending host action stays pending. -/
def State.yield (s : State) : State :=
  match s.agenda with
  | .seq :: rest => { s with agenda := rest }
  | _ => s

/-- The next action is a host write of a command word to `CMD` (R13). -/
def State.cmdWritePending (s : State) : Bool :=
  match s.agenda with
  | .hostWrite 1 _ :: _ => true
  | _ => false

/-- A read returns `v` to the host (R10). -/
def State.answer (v : Word24) (s : State) : State := { s with reply := some v }

/-! ### Rejection of a command: this block's exception (R156, R157) -/

/-- Error entry: `STATE <- ERROR; ERR <- e; RESULT <- 0`, nothing else (R156). -/
def State.errorEntry (e : ErrCode) (s : State) : State := { s with run := .error, err := e, result := 0 }

/-- The return from an error: there is no command for it, the next accepted command sets `ERR <- 0; STATE <- BUSY`
(R157). -/
def State.leaveError (s : State) : State := { s with err := .none, run := .busy }

/-! ### Acceptance (R73) -/

/-- `CfgValid(op, sel, q, a)` (R152). -/
def cfgValid (op : BitVec 4) (sel : BitVec 3) (q : BitVec 5) (ab : BitVec 4) : Bool :=
  (1 ≤ q.toNat && q.toNat ≤ 16) && (1 ≤ ab.toNat && ab.toNat ≤ 8) && ab.toNat ≤ q.toNat &&
    (!((op = 0x7#4 || op = 0x8#4) && (sel = 3#3 || sel = 4#3)) || q.toNat - ab.toNat ≤ 8)

/-- `Check(w)` on the fields of the word: the code of the one error reported (R151). -/
def check (op : BitVec 4) (sel : BitVec 3) (q : BitVec 5) (ab : BitVec 4) : ErrCode :=
  if op = 0x0#4 || 10 ≤ op.toNat then .illegalCommand
  else if (op = 0x7#4 || op = 0x8#4) && sel = 7#3 then .unknownAlgorithmError
  else if cfgValid op sel q ab then .none
  else .configurationError

/-- Capture once: the word's fields and `OPERAND` go into the `ACT_*` latches (R24). -/
def State.latch (op : BitVec 4) (sel : BitVec 3) (q : BitVec 5) (ab : BitVec 4) (s : State) : State :=
  { s with actOp := op, actSel := sel, actQ := q, actAb := ab, actOpnd := s.operand, abortReq := false }

/-- What acceptance does for a BUILD: the sweep starts at cell (0, 0, 0) and the table is no longer valid (R20, R22,
R132). -/
def State.startSweep (s : State) : State := { s.invalidateTag with i := 0, j := 0, k := 0 }

/-- Command acceptance, `HostWrite(1, w)` for the word with these fields (R73). -/
def accept (op : BitVec 4) (sel : BitVec 3) (q : BitVec 5) (ab : BitVec 4) (s : State) : State :=
  if s.run = .busy then
    if op = 0x9#4 then s.requestAbort else s.raiseOvr
  else if op = 0x9#4 then s.clearOvr
  else if check op sel q ab = .none then
    let t := (s.clearOvr.latch op sel q ab).leaveError
    if op = 0x8#4 then t.startSweep else t
  else s.clearOvr.errorEntry (check op sel q ab)

/-! ### SEQ's step -/

/-- The latches hold the command with these fields, as an acceptance lets it through (R23, R24). -/
def State.latched (op : BitVec 4) (sel : BitVec 3) (q : BitVec 5) (ab : BitVec 4) (s : State) : Bool :=
  s.actOp = op && s.actSel = sel && s.actQ = q && s.actAb = ab && op ≠ 0x9#4 && check op sel q ab = .none

/-- SEQ's step for the command with these fields: enabled when `STATE` is BUSY (R8, R131, R134), nothing otherwise
(R164). `rule` is what the command's own rule does. -/
def seqStep (op : BitVec 4) (sel : BitVec 3) (q : BitVec 5) (ab : BitVec 4)
    (rule : State → Host.Outcome State Fault Refusal) (s : State) : Host.Outcome State Fault Refusal :=
  if s.run = .busy then
    if s.latched op sel q ab then rule s.yield else .fault .noSequencerStep
  else .next s.yield

/-- The action that concerns this command: its acceptance when the host's write to `CMD` is the next action (R73), and
SEQ's step otherwise (R131, R134). See notes/assumptions/4.md. -/
def command (op : BitVec 4) (sel : BitVec 3) (q : BitVec 5) (ab : BitVec 4)
    (rule : State → Host.Outcome State Fault Refusal) (s : State) : Host.Outcome State Fault Refusal :=
  if s.cmdWritePending then .next (accept op sel q ab s.consume) else seqStep op sel q ab rule s

/-- `RESULT <- r; ABORT_REQ <- 0; STATE <- DONE`: the completion of a single-result command (R131). -/
def State.complete (r : Word24) (s : State) : State := { s with result := r, abortReq := false, run := .done }

/-- SEQ's step for a single-result command whose result is `f` of the latched operand, `quantization` and `algoBits`
(R23, R131). -/
def singleResult (f : Word24 → Nat → Nat → Word24) (s : State) : Host.Outcome State Fault Refusal :=
  .next (s.complete (f s.actOpnd s.actQ.toNat s.actAb.toNat))

end Sys2Proof.Machine
end

