-- ==== Sys2Proof/Machine/HilbertTransform.lean ====
section
/-! DEFINITION. The HilbertTransform engine and its commands HTO and HFROM (spec/41_hilbert_transform.md). Every call
starts from its own inputs and returns fresh values (R97). -/

namespace Sys2Proof.Machine

/-- The index of an axis. -/
inductive AxisIx where
  | first | second | third
deriving DecidableEq, Repr

/-- `X[i]`. -/
def Axes.get (a : Axes) : AxisIx → Nat
  | .first => a.x
  | .second => a.y
  | .third => a.z

/-- `X[i] <- v`. -/
def Axes.put (a : Axes) (ix : AxisIx) (v : Nat) : Axes :=
  match ix with
  | .first => { a with x := v }
  | .second => { a with y := v }
  | .third => { a with z := v }

/-- Each axis reduced to its low `a` bits on entry (R90). -/
def Axes.lowBits (axes : Axes) (a : Nat) : Axes :=
  { x := axes.x % 2 ^ a, y := axes.y % 2 ^ a, z := axes.z % 2 ^ a }

/-- The body of the exchange/invert loops for one axis and one mask `Q`, with `P = Q - 1` (R91, R92). -/
def exchangeAxis (ix : AxisIx) (mask : Nat) (X : Axes) : Axes :=
  if X.get ix &&& mask ≠ 0 then X.put .first (X.x ^^^ (mask - 1))
  else
    let t := (X.x ^^^ X.get ix) &&& (mask - 1)
    let Y := X.put .first (X.x ^^^ t)
    Y.put ix (Y.get ix ^^^ t)

/-- One mask, axes ascending (R91). -/
def exchangeAscending (mask : Nat) (X : Axes) : Axes :=
  exchangeAxis .third mask (exchangeAxis .second mask (exchangeAxis .first mask X))

/-- One mask, axes descending (R92). -/
def exchangeDescending (mask : Nat) (X : Axes) : Axes :=
  exchangeAxis .first mask (exchangeAxis .second mask (exchangeAxis .third mask X))

/-- The masks `2^n, .., 4, 2` in that order (R91, `Q` from `M` down to 2, with `n = a - 1`). -/
def exchangeDown : Nat → Axes → Axes
  | 0, X => X
  | n + 1, X => exchangeDown n (exchangeAscending (2 ^ (n + 1)) X)

/-- The masks `2, 4, .., 2^n` in that order (R92, `Q` from 2 up to `M`, with `n = a - 1`; `Q = N` is not processed). -/
def exchangeUp : Nat → Axes → Axes
  | 0, X => X
  | n + 1, X => exchangeDescending (2 ^ (n + 1)) (exchangeUp n X)

/-- The correction term: the exclusive or of `Q - 1` over the masks `Q = 2^n, .., 2` whose bit is set in the last axis
(R91, C4). -/
def correction : Nat → Nat → Nat
  | 0, _ => 0
  | n + 1, z => (if z &&& 2 ^ (n + 1) ≠ 0 then 2 ^ (n + 1) - 1 else 0) ^^^ correction n z

/-- The Gray-code forward pass: `X[1] ^= X[0]`, then `X[2] ^= X[1]` with the new `X[1]` (R91). -/
def grayForward (X : Axes) : Axes :=
  { x := X.x, y := X.y ^^^ X.x, z := X.z ^^^ (X.y ^^^ X.x) }

/-- The correction XOR of every axis (R91). -/
def correctAxes (n : Nat) (X : Axes) : Axes :=
  let t := correction n X.z
  { x := X.x ^^^ t, y := X.y ^^^ t, z := X.z ^^^ t }

/-- The Gray-decode pass, each axis with the old value of the one before, and `X[0]` with the old `X[2] >> 1` (R92). -/
def grayDecode (X : Axes) : Axes :=
  { x := X.x ^^^ (X.z >>> 1), y := X.y ^^^ X.x, z := X.z ^^^ X.y }

/-- `HTO(x, y, z, a)`, `toHilbertCoords` (R91). -/
def hto (axes : Axes) (a : Nat) : Axes :=
  correctAxes (a - 1) (grayForward (exchangeDown (a - 1) (axes.lowBits a)))

/-- `HFROM(x, y, z, a)`, `fromHilbertCoords` (R92). DEDUCED: where the list of first points that R96 prints for `a >= 2`
disagrees (`a` = 3, 4, 6, 7), R92 is followed (notes/assumptions/19.md). -/
def hfrom (axes : Axes) (a : Nat) : Axes :=
  exchangeUp (a - 1) (grayDecode (axes.lowBits a))

/-- HTO (R93). -/
def execHto (sel : BitVec 3) (q : BitVec 5) (ab : BitVec 4) (s : State) : Host.Outcome State Fault Refusal :=
  command 0x5#4 sel q ab (singleResult fun opnd _ a => packAxes (hto (axesOperand opnd) a)) s

/-- HFROM (R94). -/
def execHfrom (sel : BitVec 3) (q : BitVec 5) (ab : BitVec 4) (s : State) : Host.Outcome State Fault Refusal :=
  command 0x6#4 sel q ab (singleResult fun opnd _ a => packAxes (hfrom (axesOperand opnd) a)) s

end Sys2Proof.Machine
end

