-- ==== Sys2Proof/Machine/Interleave.lean ====
section
/-! DEFINITION. The BitInterleave unit and its commands MENC, MENCH, MDEC, MDECH (spec/40_bitinterleave.md). -/

namespace Sys2Proof.Machine

/-- The integer whose bit `g`, for `g < groups`, is `f g`, and whose other bits are 0. -/
def gather : Nat → (Nat → Bool) → Nat
  | 0, _ => 0
  | groups + 1, f => gather groups f + (f groups).toNat * 2 ^ groups

/-- `IL_ENC(n, groups)`: group `g` is the bits `3g+2 .. 3g` of `n`, the most significant to the first axis (R80). -/
def ilEnc (n groups : Nat) : Axes where
  x := gather groups fun g => n.testBit (3 * g + 2)
  y := gather groups fun g => n.testBit (3 * g + 1)
  z := gather groups fun g => n.testBit (3 * g)

/-- `IL_DEC(x, y, z, groups)` (R81). -/
def ilDec (a : Axes) : Nat → Nat
  | 0 => 0
  | g + 1 =>
    ilDec a g + ((a.x.testBit g).toNat * 2 ^ (3 * g + 2) + (a.y.testBit g).toNat * 2 ^ (3 * g + 1) +
      (a.z.testBit g).toNat * 2 ^ (3 * g))

/-- `mortonEncode(value, forHilbert = false)`: the normalising shift, reduced to the 18 bits of 6 groups (R82). -/
def mencValue (value q : Nat) : Axes := ilEnc ((value <<< (16 - q)) % 2 ^ 18) 6

/-- `mortonEncode(value, forHilbert = true)`: `algoBits` groups, no shift (R83). -/
def menchValue (value a : Nat) : Axes := ilEnc value a

/-- `mortonDecode((x, y, z), forHilbert = false)`: 6 bits of each axis (R84). -/
def mdecValue (axes : Axes) : Nat := ilDec axes 6

/-- `mortonDecode((x, y, z), forHilbert = true)`: `algoBits` bits of each axis (R85). -/
def mdechValue (axes : Axes) (a : Nat) : Nat := ilDec axes a

/-- MENC (R82). -/
def execMenc (sel : BitVec 3) (q : BitVec 5) (ab : BitVec 4) (s : State) : Host.Outcome State Fault Refusal :=
  command 0x1#4 sel q ab (singleResult fun opnd q _ => packAxes (mencValue (value16Operand opnd) q)) s

/-- MENCH (R83). -/
def execMench (sel : BitVec 3) (q : BitVec 5) (ab : BitVec 4) (s : State) : Host.Outcome State Fault Refusal :=
  command 0x2#4 sel q ab (singleResult fun opnd _ a => packAxes (menchValue (value24Operand opnd) a)) s

/-- MDEC (R84). -/
def execMdec (sel : BitVec 3) (q : BitVec 5) (ab : BitVec 4) (s : State) : Host.Outcome State Fault Refusal :=
  command 0x3#4 sel q ab (singleResult fun opnd _ _ => packValue (mdecValue (axesOperand opnd))) s

/-- MDECH (R85). -/
def execMdech (sel : BitVec 3) (q : BitVec 5) (ab : BitVec 4) (s : State) : Host.Outcome State Fault Refusal :=
  command 0x4#4 sel q ab (singleResult fun opnd _ a => packValue (mdechValue (axesOperand opnd) a)) s

end Sys2Proof.Machine
end

