-- ==== Sys2Proof/Machine/HilbertDecoder.lean ====
section
/-! DEFINITION. The Hilbert decoder and its command DECODE.hilbert (spec/42_hilbert_decoder.md). -/

namespace Sys2Proof.Machine

/-- `side = 2^(8 - a)`, the width of a coarse cell in channel units (R101). -/
def gridSide (a : Nat) : Nat := 1 <<< (8 - a)

/-- `half = side >> 1` (R101). -/
def gridHalf (a : Nat) : Nat := gridSide a >>> 1

/-- The fractional offset of a channel value, re-centred when it exceeds half the side (R101). -/
def fractionalOffset (c a : Nat) : Int :=
  let f := c &&& (gridSide a - 1)
  if f > gridHalf a then (f : Int) - gridSide a else f

/-- The coarse index of a channel value: the value is nudged up by half when its offset was re-centred, and the index
wraps to `a` bits (R101). -/
def coarseIndex (c a : Nat) : Nat :=
  let f := c &&& (gridSide a - 1)
  ((if f > gridHalf a then c + gridHalf a else c) >>> (8 - a)) % 2 ^ a

/-- The Hilbert distance of a coarse point, with the first and third channel swapped (R102). -/
def hilbertDistance (r g b a : Nat) : Nat :=
  ilDec (hto { x := coarseIndex b a, y := coarseIndex g a, z := coarseIndex r a } a) a

/-- `clamp(v, lo, hi)` (R6). -/
def clampInt (v lo hi : Int) : Int := max lo (min hi v)

/-- A neighbouring distance, clamped to `[0, 2^q - 1]` (R103). -/
def neighbourDistance (d : Int) (q : Nat) : Nat := (clampInt d 0 (2 ^ q - 1)).toNat

/-- The coarse point at a distance along the curve, in colour order (R, G, B): the axes are swapped back (R103). -/
def curvePoint (d a : Nat) : Axes :=
  let u := hfrom (ilEnc d a) a
  { x := u.z, y := u.y, z := u.x }

/-- `sign(v)` (R6). -/
def signInt (v : Int) : Int := if v < 0 then -1 else if v = 0 then 0 else 1

/-- The accumulator of step 4: the coarse distance shifted into the fine grid, and the offsets along the curve's local
direction (R104). -/
def hilbertAcc (r g b q a : Nat) : Int :=
  let d := hilbertDistance r g b a
  let next := curvePoint (neighbourDistance (d + 1) q) a
  let prev := curvePoint (neighbourDistance (d - 1) q) a
  ((d <<< (8 - a) : Nat) : Int) + fractionalOffset r a * signInt (next.x - prev.x) +
    fractionalOffset g a * signInt (next.y - prev.y) + fractionalOffset b a * signInt (next.z - prev.z)

/-- The decoded value before it is reduced to 16 bits: `acc · 2^(16 - q)` (R105). -/
def hilbertScaled (r g b q a : Nat) : Int := hilbertAcc r g b q a * 2 ^ (16 - q)

/-- `HilbertDecode(R, G, B, q, a)`, reduced `mod 65536` (R16, R100, R105). -/
def hilbertDepth (r g b q a : Nat) : Depth := BitVec.ofInt 16 (hilbertScaled r g b q a)

/-- DECODE.hilbert (R100). -/
def execDecodeHilbert (q : BitVec 5) (ab : BitVec 4) (s : State) : Host.Outcome State Fault Refusal :=
  command 0x7#4 0#3 q ab (singleResult fun opnd q a =>
    packDepth (hilbertDepth (firstOperand opnd) (secondOperand opnd) (thirdOperand opnd) q a)) s

end Sys2Proof.Machine
end

