-- ==== Sys2Proof/Machine/PhaseDecoder.lean ====
section
/-! DEFINITION. The phase decoder and its command DECODE.phase (spec/43_planar_decoders.md R118, R119). -/

namespace Sys2Proof.Machine

/-- `PHASE_ROM`, the 256 entries as R119 prints them, sixteen to a row (notes/assumptions/9.md). -/
def phaseRomTable : List Nat :=
  [8192, 7865, 7730, 7625, 7537, 7459, 7389, 7324, 7263, 7206, 7152, 7101, 7052, 7004, 6959, 6914] ++
  [6872, 6830, 6790, 6750, 6712, 6674, 6637, 6601, 6566, 6531, 6497, 6464, 6431, 6398, 6366, 6335] ++
  [6304, 6273, 6243, 6213, 6183, 6154, 6125, 6097, 6068, 6040, 6013, 5985, 5958, 5931, 5904, 5878] ++
  [5852, 5826, 5800, 5774, 5749, 5723, 5698, 5673, 5648, 5624, 5599, 5575, 5551, 5527, 5503, 5479] ++
  [5455, 5432, 5409, 5385, 5362, 5339, 5316, 5293, 5270, 5248, 5225, 5203, 5180, 5158, 5136, 5114] ++
  [5091, 5069, 5048, 5026, 5004, 4982, 4960, 4939, 4917, 4896, 4874, 4853, 4832, 4810, 4789, 4768] ++
  [4747, 4726, 4705, 4684, 4663, 4642, 4621, 4600, 4579, 4559, 4538, 4517, 4496, 4476, 4455, 4434] ++
  [4414, 4393, 4373, 4352, 4332, 4311, 4290, 4270, 4249, 4229, 4209, 4188, 4168, 4147, 4127, 4106] ++
  [4086, 4065, 4045, 4024, 4004, 3983, 3963, 3943, 3922, 3902, 3881, 3860, 3840, 3819, 3799, 3778] ++
  [3758, 3737, 3716, 3696, 3675, 3654, 3633, 3613, 3592, 3571, 3550, 3529, 3508, 3487, 3466, 3445] ++
  [3424, 3403, 3382, 3360, 3339, 3318, 3296, 3275, 3253, 3232, 3210, 3188, 3166, 3144, 3123, 3101] ++
  [3078, 3056, 3034, 3012, 2989, 2967, 2944, 2922, 2899, 2876, 2853, 2830, 2807, 2783, 2760, 2737] ++
  [2713, 2689, 2665, 2641, 2617, 2593, 2568, 2544, 2519, 2494, 2469, 2443, 2418, 2392, 2366, 2340] ++
  [2314, 2288, 2261, 2234, 2207, 2179, 2152, 2124, 2095, 2067, 2038, 2009, 1979, 1949, 1919, 1888] ++
  [1857, 1826, 1794, 1761, 1728, 1695, 1661, 1626, 1591, 1555, 1518, 1480, 1442, 1402, 1362, 1320] ++
  [1278, 1233, 1188, 1140, 1091, 1040, 986, 929, 868, 803, 733, 655, 567, 462, 327, 0]

/-- `PHASE_ROM[c]`, for a channel value `c` (R119). -/
def phaseRom (c : Nat) : Nat := phaseRomTable.getD c 0

/-- `gamma`, whose parity negates the phase (R118). -/
def phaseGamma (g : Nat) : Nat := (g * 65535) / 8192

/-- `K`, the number of whole periods, rounded to nearest (R118, C6). -/
def phaseWraps (g : Nat) : Nat := (g * 65535 + 8192) / 16384

/-- `Z` (R118). -/
def phaseZ (r g : Nat) : Int :=
  if (phaseGamma g).testBit 0 then 16384 * (phaseWraps g : Int) - phaseRom r
  else 16384 * (phaseWraps g : Int) + phaseRom r

/-- The phase decoder: `clamp(Z, 0, 65535)` (R118). -/
def phaseDepth (r g : Nat) : Depth := BitVec.ofInt 16 (max 0 (min 65535 (phaseZ r g)))

/-- DECODE.phase (R118). -/
def execDecodePhase (q : BitVec 5) (ab : BitVec 4) (s : State) : Host.Outcome State Fault Refusal :=
  command 0x7#4 5#3 q ab (singleResult fun opnd _ _ =>
    packDepth (phaseDepth (firstOperand opnd) (secondOperand opnd))) s

end Sys2Proof.Machine
end

