-- ==== Sys2Proof/Machine/PlanarDecoders.lean ====
section
/-! DEFINITION. The morton, packed, split, triangle and hue decoders and their commands (spec/43_planar_decoders.md).
Each is a pure function of the channels and the configuration it mentions (R9, R111). -/

namespace Sys2Proof.Machine

/-! ### Morton -/

/-- The morton decoder: the fixed-mode de-interleave of the channels, reduced to 16 bits (R112, R16). -/
def mortonDepth (r g b : Nat) : Depth := BitVec.ofNat 16 (ilDec { x := r, y := g, z := b } 6)

/-- DECODE.morton (R112). -/
def execDecodeMorton (q : BitVec 5) (ab : BitVec 4) (s : State) : Host.Outcome State Fault Refusal :=
  command 0x7#4 2#3 q ab (singleResult fun opnd _ _ =>
    packDepth (mortonDepth (firstOperand opnd) (secondOperand opnd) (thirdOperand opnd))) s

/-! ### Packed and split -/

/-- The high part, `a` bits of channel 0 (R113). -/
def highPart (r a : Nat) : Nat := r >>> (8 - a)

/-- The low part, `q - a` bits of channel 1 (R113). -/
def lowPart (g q a : Nat) : Nat := g >>> (8 - (q - a))

/-- The packed decoder before its 16-bit output: `((high << (q - a)) + low) << (16 - q)` (R113). -/
def packedValue (r g q a : Nat) : Nat := ((highPart r a <<< (q - a)) + lowPart g q a) <<< (16 - q)

/-- The low part of the split decoder, reflected when the high part is odd (R114). -/
def splitLow (r g q a : Nat) : Nat :=
  if (highPart r a).testBit 0 then 2 ^ (q - a) - lowPart g q a - 1 else lowPart g q a

/-- The split decoder before its 16-bit output (R114). -/
def splitValue (r g q a : Nat) : Nat := ((highPart r a <<< (q - a)) + splitLow r g q a) <<< (16 - q)

/-- The packed decoder (R113, R16). -/
def packedDepth (r g q a : Nat) : Depth := BitVec.ofNat 16 (packedValue r g q a)

/-- The split decoder (R114, R16). -/
def splitDepth (r g q a : Nat) : Depth := BitVec.ofNat 16 (splitValue r g q a)

/-- DECODE.packed (R113). -/
def execDecodePacked (q : BitVec 5) (ab : BitVec 4) (s : State) : Host.Outcome State Fault Refusal :=
  command 0x7#4 3#3 q ab (singleResult fun opnd q a =>
    packDepth (packedDepth (firstOperand opnd) (secondOperand opnd) q a)) s

/-- DECODE.split (R114). -/
def execDecodeSplit (q : BitVec 5) (ab : BitVec 4) (s : State) : Host.Outcome State Fault Refusal :=
  command 0x7#4 4#3 q ab (singleResult fun opnd q a =>
    packDepth (splitDepth (firstOperand opnd) (secondOperand opnd) q a)) s

/-! ### Triangle -/

/-- The period index `m` (R115). -/
def trianglePeriod (r : Nat) : Nat := if r = 0 then 0 else ((1024 * r - 255) / 510) % 4

/-- `t`, the auxiliary channel or its complement that the period index selects (R115). -/
def triangleAux (r g b : Nat) : Nat :=
  match trianglePeriod r with
  | 0 => g
  | 1 => b
  | 2 => 255 - g
  | _ => 255 - b

/-- The triangle decoder, `128·m + (256·t) // 255` (R115, R16). -/
def triangleDepth (r g b : Nat) : Depth :=
  BitVec.ofNat 16 (128 * trianglePeriod r + (256 * triangleAux r g b) / 255)

/-- DECODE.triangle (R115). -/
def execDecodeTriangle (q : BitVec 5) (ab : BitVec 4) (s : State) : Host.Outcome State Fault Refusal :=
  command 0x7#4 1#3 q ab (singleResult fun opnd _ _ =>
    packDepth (triangleDepth (firstOperand opnd) (secondOperand opnd) (thirdOperand opnd))) s

/-! ### Hue -/

/-- The raw hue metric, by the first branch that holds of red-max, green-max, blue-max (R120). -/
def hueRaw (r g b : Nat) : Int :=
  if r ≥ g ∧ r ≥ b then
    if g ≥ b then (g : Int) - b else (g : Int) - b + 1529
  else if g ≥ r ∧ g ≥ b then (b : Int) - r + 510
  else (r : Int) - g + 1020

/-- The hue rescaled to `q` bits (R121). -/
def hueQuantized (r g b q : Nat) : Nat := ((hueRaw r g b).toNat * (2 ^ q - 1)) / 1529

/-- The hue decoder: 0 when the channel sum is below 255 (R120, R121, R16). -/
def hueDepth (r g b q : Nat) : Depth :=
  if r + g + b < 255 then 0 else BitVec.ofNat 16 (hueQuantized r g b q <<< (16 - q))

/-- DECODE.hue (R120). -/
def execDecodeHue (q : BitVec 5) (ab : BitVec 4) (s : State) : Host.Outcome State Fault Refusal :=
  command 0x7#4 6#3 q ab (singleResult fun opnd q _ =>
    packDepth (hueDepth (firstOperand opnd) (secondOperand opnd) (thirdOperand opnd) q)) s

end Sys2Proof.Machine
end

