-- ==== Sys2Proof/Machine/TableBuilder.lean ====
section
/-! DEFINITION. The LookupTableBuilder: the multiplexer, the sweep, and the commands BUILD and ABORT
(spec/44_table_builder.md). -/

namespace Sys2Proof.Machine

/-- The AlgorithmId of a `SEL` code; 7 is none (R63, R153). -/
def algorithmOf (sel : BitVec 3) : Option AlgorithmId :=
  match sel.toNat with
  | 0 => some .hilbert
  | 1 => some .triangle
  | 2 => some .morton
  | 3 => some .packed
  | 4 => some .split
  | 5 => some .phase
  | 6 => some .hue
  | _ => none

/-- `Decode(sel, R, G, B, q, a)`, the multiplexer (R130). -/
def decodeColour (algo : AlgorithmId) (r g b q a : Nat) : Depth :=
  match algo with
  | .hilbert => hilbertDepth r g b q a
  | .triangle => triangleDepth r g b
  | .morton => mortonDepth r g b
  | .packed => packedDepth r g q a
  | .split => splitDepth r g q a
  | .phase => phaseDepth r g
  | .hue => hueDepth r g b q

/-- The next cell in the fixed order, R outer, G middle, B inner; the last cell wraps to (0, 0, 0) (R20, R135). -/
def State.advance (s : State) : State :=
  if s.k.toNat < 254 then { s with k := s.k + 1 }
  else if s.j.toNat < 254 then { s with k := 0, j := s.j + 1 }
  else if s.i.toNat < 254 then { s with k := 0, j := 0, i := s.i + 1 }
  else { s with k := 0, j := 0, i := 0 }

/-- The cell that SEQ writes next is the last one, (254, 254, 254) or beyond: the advance wraps (R135). -/
def State.atLastCell (s : State) : Bool :=
  !(s.k.toNat < 254) && !(s.j.toNat < 254) && !(s.i.toNat < 254)

/-- An abort has been requested and the next cell begins a row (R136). -/
def State.abortDue (s : State) : Bool := s.abortReq && s.k = 0

/-- The build stops: `ABORT_REQ <- 0; STATE <- ABORTED` (R134, R136). -/
def State.stopBuild (s : State) : State := { s with abortReq := false, run := .aborted }

/-- The build is complete: the tag is written, `ABORT_REQ <- 0; STATE <- DONE` (R134). -/
def State.finishBuild (s : State) : State := { s.writeTag with abortReq := false, run := .done }

/-- The three bytes of the current cell are written (R134). -/
def State.writeCell (depth : Depth) (s : State) : State :=
  { s with tbl := s.tbl.writeCell (cellBase s.i.toNat s.j.toNat s.k.toNat) depth }

/-- The part of the BUILD step that writes one cell and advances (R134). -/
def State.buildCell (algo : AlgorithmId) (s : State) : State :=
  let depth := decodeColour algo s.i.toNat s.j.toNat s.k.toNat s.actQ.toNat s.actAb.toNat
  let t := (s.writeCell depth).advance
  if s.atLastCell then t.finishBuild else t

/-- The BUILD step (R134). The latched algorithm code is never 7 (R153). -/
def buildStep (s : State) : Host.Outcome State Fault Refusal :=
  if s.abortDue then .next s.stopBuild
  else
    match algorithmOf s.actSel with
    | some algo => .next (s.buildCell algo)
    | none => .fault .noSequencerStep

/-- BUILD (R132, R134). -/
def execBuild (sel : BitVec 3) (q : BitVec 5) (ab : BitVec 4) (s : State) : Host.Outcome State Fault Refusal :=
  command 0x8#4 sel q ab buildStep s

/-- ABORT (R138). It is never latched, so SEQ has no step of it: `seqStep` answers before the rule given here. -/
def execAbort (sel : BitVec 3) (q : BitVec 5) (ab : BitVec 4) (s : State) : Host.Outcome State Fault Refusal :=
  command 0x9#4 sel q ab (fun _ => .fault .noSequencerStep) s

end Sys2Proof.Machine
end

