-- ==== Sys2Proof/Machine/Dispatch.lean ====
section
/-! DEFINITION. Which meaning each command has: one arm for each constructor. -/

namespace Sys2Proof.Machine

def exec (i : Instr) (s : State) : Host.Outcome State Fault Refusal :=
  match i with
  | .menc sel q ab => Sys2Proof.Machine.execMenc sel q ab s
  | .mench sel q ab => Sys2Proof.Machine.execMench sel q ab s
  | .mdec sel q ab => Sys2Proof.Machine.execMdec sel q ab s
  | .mdech sel q ab => Sys2Proof.Machine.execMdech sel q ab s
  | .hto sel q ab => Sys2Proof.Machine.execHto sel q ab s
  | .hfrom sel q ab => Sys2Proof.Machine.execHfrom sel q ab s
  | .decodeHilbert q ab => Sys2Proof.Machine.execDecodeHilbert q ab s
  | .decodeTriangle q ab => Sys2Proof.Machine.execDecodeTriangle q ab s
  | .decodeMorton q ab => Sys2Proof.Machine.execDecodeMorton q ab s
  | .decodePacked q ab => Sys2Proof.Machine.execDecodePacked q ab s
  | .decodeSplit q ab => Sys2Proof.Machine.execDecodeSplit q ab s
  | .decodePhase q ab => Sys2Proof.Machine.execDecodePhase q ab s
  | .decodeHue q ab => Sys2Proof.Machine.execDecodeHue q ab s
  | .build sel q ab => Sys2Proof.Machine.execBuild sel q ab s
  | .abort sel q ab => Sys2Proof.Machine.execAbort sel q ab s

end Sys2Proof.Machine
end

