-- ==== Sys2Proof/Machine/Agents.lean ====
section
/-! DEFINITION. The two agents' atomic actions (spec/00_scope.md R8): what the host's accesses and the reset input do
(spec/10_state.md R10, R11, spec/20_memory.md R42, R47, spec/70_reset_and_hazards.md R170, R171), and what SEQ does. -/

namespace Sys2Proof.Machine

/-- The value of host register `n`; `CMD` reads 0, and above 5 there is none (R11). -/
def registerValue (n : Nat) (s : State) : Option Word24 :=
  match n with
  | 0 => some s.operand
  | 1 => some 0
  | 2 => some (s.status.setWidth 24)
  | 3 => some s.result
  | 4 => some s.progress
  | 5 => some (s.tag.bits.setWidth 24)
  | _ => none

/-- `HostRead(n)` (R11, R47): the value goes to the host and nothing else changes. -/
def readRegister (n : Nat) (s : State) : Host.Outcome State Fault Refusal :=
  match registerValue n s with
  | some v => .next (s.consume.answer v)
  | none => .refused (.noSuchRegister n)

/-- `OPERAND <- v[23:0]` (R12, R47). -/
def State.setOperand (v : Nat) (s : State) : State := { s with operand := BitVec.ofNat 24 v }

/-- A host write to `CMD` of the word `w`: the command's own meaning where the word is a command, and acceptance's
rejection (or drop, while BUSY) where it is none (R13, R68, R73). -/
def submitWord (w : Word) (s : State) : Host.Outcome State Fault Refusal :=
  match decodeWord w with
  | .ok i => exec i s
  | .error _ => .next (accept (opField w) (selField w) (qField w) (abField w) s.consume)

/-- `HostWrite(n, v)` (R11, R13, R47): registers 2 to 5 ignore the write. -/
def writeRegister (n v : Nat) (s : State) : Host.Outcome State Fault Refusal :=
  match n with
  | 0 => .next (s.consume.setOperand v)
  | 1 => submitWord (BitVec.ofNat 16 v) s
  | 2 => .next s.consume
  | 3 => .next s.consume
  | 4 => .next s.consume
  | 5 => .next s.consume
  | _ => .refused (.noSuchRegister n)

/-- A BUILD is BUSY, so that the table's bytes are unspecified to the host (R42). -/
def State.building (s : State) : Bool := s.run = .busy && s.actOp = 0x8#4

/-- One unspecified byte has been given out. -/
def State.takeFreeByte (s : State) : State := { s with freeCount := s.freeCount + 1 }

/-- `TblRead(addr)` (R42): the stored byte, or an unspecified one while a BUILD is BUSY. -/
def readTable (addr : Nat) (s : State) : Host.Outcome State Fault Refusal :=
  if addr < Config.tblBytes then
    if s.building then .next (s.consume.takeFreeByte.answer ((Config.freeByte s.freeCount).setWidth 24))
    else .next (s.consume.answer ((s.tbl.read addr).setWidth 24))
  else .refused (.noSuchTableByte addr)

/-- The reset input: every register takes its reset value, `TBL` is not written (R27, R170, R171). What is pending
outside the block, and what the host has already read, are not the block's. -/
def State.resetBlock (s : State) : State :=
  { State.reset with tbl := s.tbl, agenda := s.agenda, reply := s.reply, freeCount := s.freeCount }

/-- The word whose fields the latches hold (R24, R61). -/
def State.latchedWord (s : State) : Word := commandWord s.actOp s.actSel s.actQ s.actAb

/-- SEQ moves: its step of the latched command when `STATE` is BUSY, and nothing otherwise (R8, R23, R164). -/
def sequencerMove (s : State) : Host.Outcome State Fault Refusal :=
  if s.run = .busy then
    match decodeWord s.latchedWord with
    | .ok i => exec i s
    | .error _ => .fault .noSequencerStep
  else .next s.yield

/-- The action at the head of the agenda, and SEQ's move when nothing is pending (R8). -/
def nextAction (s : State) : Host.Outcome State Fault Refusal :=
  match s.agenda with
  | .hostRead n :: _ => readRegister n s
  | .hostWrite n v :: _ => writeRegister n v s
  | .tblRead addr :: _ => readTable addr s
  | .reset :: _ => .next s.consume.resetBlock
  | .seq :: _ => sequencerMove s
  | [] => sequencerMove s

/-- The host's next action is to write the low `nbits` bits of `w`, as a command word, to `CMD`. -/
def State.pendCommand (s : State) (nbits w : Nat) : State :=
  { s with agenda := .hostWrite 1 (w % 2 ^ nbits) :: s.agenda }

end Sys2Proof.Machine
end

