-- ==== Sys2Proof/Machine/Step.lean ====
section
/-! DEFINITION. One step of the machine: the next atomic action of the interleaving (spec/00_scope.md R8). -/

namespace Sys2Proof.Machine

/-- One atomic action (R8, R10). -/
def step (s : State) : Host.Outcome State Fault Refusal := nextAction s

/-- The word is the next thing the host writes to `CMD`, where commands come from (R50, notes/assumptions/2.md). -/
def State.withFetchWord (s : State) (nbits w : Nat) : State := s.pendCommand nbits w

end Sys2Proof.Machine
end

