-- ==== Sys2Proof/WellFormed.lean ====
section
/-! DEFINITION. Which commands acceptance lets through (spec/60_exceptions.md R150 to R154), said of the command as
syntax. A command that is not well-formed is still a command: acceptance rejects it with the error the spec names. -/

namespace Sys2Proof

/-- The three bounds on `quantization` and `algoBits` that every checked command meets (R152). -/
def Instr.configInRange (q : BitVec 5) (ab : BitVec 4) : Bool :=
  (1 ≤ q.toNat && q.toNat ≤ 16) && (1 ≤ ab.toNat && ab.toNat ≤ 8) && ab.toNat ≤ q.toNat

/-- The further bound of the packed and split algorithms: the low part has at most 8 bits (R152). -/
def Instr.lowPartInRange (q : BitVec 5) (ab : BitVec 4) : Bool :=
  q.toNat - ab.toNat ≤ 8

/-- The command passes acceptance's check: a known algorithm (R153) and a valid configuration (R152). ABORT is never
checked (R138). -/
def Instr.wellFormed : Instr → Bool
  | .menc _ q ab => configInRange q ab
  | .mench _ q ab => configInRange q ab
  | .mdec _ q ab => configInRange q ab
  | .mdech _ q ab => configInRange q ab
  | .hto _ q ab => configInRange q ab
  | .hfrom _ q ab => configInRange q ab
  | .decodeHilbert q ab => configInRange q ab
  | .decodeTriangle q ab => configInRange q ab
  | .decodeMorton q ab => configInRange q ab
  | .decodePacked q ab => configInRange q ab && lowPartInRange q ab
  | .decodeSplit q ab => configInRange q ab && lowPartInRange q ab
  | .decodePhase q ab => configInRange q ab
  | .decodeHue q ab => configInRange q ab
  | .build sel q ab =>
    sel ≠ 7#3 && configInRange q ab && (!(sel = 3#3 || sel = 4#3) || lowPartInRange q ab)
  | .abort _ _ _ => true

end Sys2Proof
end

