-- ==== Sys2Proof/Safety.lean ====
section
/-! DEFINITION. The terms in which claims about DSDEC are stated: which command is being offered or run, what a table
that holds a build is, and the invariant of the block. -/

namespace Sys2Proof.Machine

/-! ### Whose move a command's meaning is -/

/-- SEQ's move on the command `i`: no write to `CMD` is next, `STATE` is BUSY and the latches hold `i`, which acceptance
let through (R23, R24, R131, R134). -/
def State.running (s : State) (i : Instr) : Prop :=
  s.cmdWritePending = false ∧ s.run = .busy ∧ s.latchedWord = encode i ∧ i.wellFormed = true

/-- SEQ moves next: a SEQ move is at the head of the agenda, or nothing is pending (R8). -/
def State.sequencerNext (s : State) : Prop := s.agenda = [] ∨ ∃ rest, s.agenda = .seq :: rest

/-- The DECODE command of an algorithm (R63). -/
def decodeCommand (algo : AlgorithmId) (q : BitVec 5) (ab : BitVec 4) : Instr :=
  match algo with
  | .hilbert => .decodeHilbert q ab
  | .triangle => .decodeTriangle q ab
  | .morton => .decodeMorton q ab
  | .packed => .decodePacked q ab
  | .split => .decodeSplit q ab
  | .phase => .decodePhase q ab
  | .hue => .decodeHue q ab

/-! ### What the table holds -/

/-- The number of a cell in the sweep order (R46). -/
def cellNumber (i j k : Nat) : Nat := 65025 * i + 255 * j + k

/-- The three bytes of cell (i, j, k) have been written and hold that colour's depth and the padding (R43, R46, R139). -/
def cellHolds (m : Memory) (algo : AlgorithmId) (q a i j k : Nat) : Prop :=
  m.stored (cellBase i j k) = some ((decodeColour algo i j k q a).extractLsb' 8 8) ∧
  m.stored (cellBase i j k + 1) = some ((decodeColour algo i j k q a).extractLsb' 0 8) ∧
  m.stored (cellBase i j k + 2) = some 0#8

/-- Every cell before the `n`-th holds its colour's depth. -/
def sweptBelow (m : Memory) (algo : AlgorithmId) (q a n : Nat) : Prop :=
  ∀ i j k, i < 255 → j < 255 → k < 255 → cellNumber i j k < n → cellHolds m algo q a i j k

/-- Every cell of the table holds its colour's depth: a complete build (R132, R137). -/
def tableHolds (m : Memory) (algo : AlgorithmId) (q a : Nat) : Prop :=
  ∀ i j k, i < 255 → j < 255 → k < 255 → cellHolds m algo q a i j k

/-! ### The invariant of the block -/

/-- What holds of the block after reset and after every action. -/
structure State.Inv (s : State) : Prop where
  /-- `ERR != 0` exactly when `STATE = ERROR` (R14). -/
  errExactlyInError : s.err ≠ .none ↔ s.run = .error
  /-- `I`, `J`, `K` are in [0, 254] (R20). -/
  countersInRange : s.i.toNat ≤ 254 ∧ s.j.toNat ≤ 254 ∧ s.k.toNat ≤ 254
  /-- While BUSY the latches hold a command that acceptance lets through (R24). -/
  latchesAccepted : s.run = .busy →
    s.actOp ≠ 0x9#4 ∧ check s.actOp s.actSel s.actQ s.actAb = .none
  /-- `ABORT_REQ` is cleared whenever the block leaves BUSY (R21). -/
  abortReqOnlyWhileBusy : s.abortReq = true → s.run = .busy
  /-- A build stops only at a row boundary (R136). -/
  abortedAtRowBoundary : s.run = .aborted → s.k = 0
  /-- The table memory is in its canonical form. -/
  memoryWf : s.tbl.wf = true
  /-- While a BUILD is BUSY the table is not valid (R22). -/
  invalidWhileBuilding : s.building = true → s.tag.valid = false
  /-- While a BUILD is BUSY every cell before `PROGRESS` holds its new depth (R134, R136). -/
  sweptSoFar : s.building = true → ∀ algo, algorithmOf s.actSel = some algo →
    sweptBelow s.tbl algo s.actQ.toNat s.actAb.toNat (cellNumber s.i.toNat s.j.toNat s.k.toNat)
  /-- `VALID = 1`: the table holds a complete build with the tag's algorithm and configuration (R22, R49, R139). -/
  validTagIsTrue : s.tag.valid = true → ∃ algo, algorithmOf s.tag.algo = some algo ∧
    tableHolds s.tbl algo s.tag.q.toNat s.tag.ab.toNat

end Sys2Proof.Machine
end

