-- ==== Sys2Proof/Certificates/Slice0/Obligations.lean ====
section
/-! DEFINITION. The statements about DSDEC. A meaning's next state is written out as an update of the state before, so
that every field not named there is unchanged. The fields `agenda`, `reply` and `freeCount` are the model's own
(notes/assumptions/1.md, 3.md and 6.md), and a command's meaning has the two phases of notes/assumptions/4.md. -/

open Sys2Proof Sys2Proof.Machine

/-! ### The encoding -/

/-- 30_encoding.md R61 to R63: no field of any command is lost or misplaced between its word and its syntax, whatever
the fields hold. -/
def Obligations.EncodeThenDecodeIsIdentity : Prop :=
  ∀ c : Instr, decodeWord (encode c) = .ok c

/-- R62, R63: exactly the words with `OP` 0x0 or 0xA to 0xF, and exactly the words of DECODE with `SEL = 7`, are no row
of the opcode table, so no `Instr`; every other word, BUILD with `SEL = 7` among them, is one. (R68 gives each of them a
defined outcome, which is SubmittedWordFollowsAcceptance; which words are syntax is DEDUCED, notes/assumptions/18.md.) -/
def Obligations.WordsThatAreNoCommand : Prop :=
  ∀ w : Word,
    (decodeWord w = .error .illegalCommand ↔ w.toNat / 4096 = 0 ∨ 10 ≤ w.toNat / 4096) ∧
    (decodeWord w = .error .unknownAlgorithm ↔ w.toNat / 512 = 63)

/-- R72 and the word tables of 95_test_vectors.md: a few words written out. -/
def Obligations.WrittenOutWordsDecode : Prop :=
  decodeWord 0x10A8#16 = .ok (.menc 0#3 10#5 8#4) ∧
  decodeWord 0x2105#16 = .ok (.mench 0#3 16#5 5#4) ∧
  decodeWord 0x3F08#16 = .ok (.mdec 7#3 16#5 8#4) ∧
  decodeWord 0x7105#16 = .ok (.decodeHilbert 16#5 5#4) ∧
  decodeWord 0x7708#16 = .ok (.decodePacked 16#5 8#4) ∧
  decodeWord 0x8D08#16 = .ok (.build 6#3 16#5 8#4) ∧
  decodeWord 0x9000#16 = .ok (.abort 0#3 0#5 0#4)

/-! ### A step runs the decoded command -/

/-- R13, R50, R73: a host write to `CMD` of a word that is a command runs that command's meaning, with nothing added. -/
def Obligations.StepRunsTheSubmittedCommand : Prop :=
  ∀ (s : State) (v : Nat) (rest : List AgentAction) (c : Instr),
    s.agenda = .hostWrite 1 v :: rest → decodeWord (BitVec.ofNat 16 v) = .ok c → step s = exec c s

/-- R8, R23: while BUSY, SEQ's move runs the meaning of the command that the latches hold, with nothing added. -/
def Obligations.StepRunsTheLatchedCommand : Prop :=
  ∀ (s : State) (c : Instr), s.sequencerNext → s.run = .busy → s.latchedWord = encode c → step s = exec c s

/-- R50, and the model's convention of notes/assumptions/2.md: a table word placed by `withFetchWord` is the next
command that the step runs. -/
def Obligations.PlacedWordIsTheNextCommand : Prop :=
  ∀ (s : State) (w : Nat) (c : Instr), decodeTableWord 16 w = some c →
    step (s.withFetchWord 16 w) = exec c (s.withFetchWord 16 w)

/-! ### Acceptance, rejection, overrun, abort requests -/

/-- R73 with the check of R151: what a host write to `CMD` does, for every word `v[15:0]` and every state. -/
def Obligations.SubmittedWordFollowsAcceptance : Prop :=
  ∀ (s : State) (v : Nat) (rest : List AgentAction), s.agenda = .hostWrite 1 v :: rest →
    let op := v / 4096 % 16
    let sel := v / 512 % 8
    let q := v / 16 % 32
    let a := v % 16
    let valid := (1 ≤ q ∧ q ≤ 16) ∧ (1 ≤ a ∧ a ≤ 8) ∧ a ≤ q ∧
      ((op = 7 ∨ op = 8) ∧ (sel = 3 ∨ sel = 4) → q - a ≤ 8)
    let e : ErrCode :=
      if op = 0 ∨ 10 ≤ op then .illegalCommand
      else if (op = 7 ∨ op = 8) ∧ sel = 7 then .unknownAlgorithmError
      else if valid then .none else .configurationError
    step s = .next (
      if s.run = .busy then
        if op = 9 then { s with agenda := rest, abortReq := true } else { s with agenda := rest, ovr := true }
      else if op = 9 then { s with agenda := rest, ovr := false }
      else if e ≠ .none then { s with agenda := rest, ovr := false, run := .error, err := e, result := 0 }
      else if op = 8 then
        { s with agenda := rest, ovr := false, actOp := BitVec.ofNat 4 op, actSel := BitVec.ofNat 3 sel,
                 actQ := BitVec.ofNat 5 q, actAb := BitVec.ofNat 4 a, actOpnd := s.operand, abortReq := false,
                 err := .none, run := .busy, i := 0, j := 0, k := 0, tag := { s.tag with valid := false } }
      else
        { s with agenda := rest, ovr := false, actOp := BitVec.ofNat 4 op, actSel := BitVec.ofNat 3 sel,
                 actQ := BitVec.ofNat 5 q, actAb := BitVec.ofNat 4 a, actOpnd := s.operand, abortReq := false,
                 err := .none, run := .busy })

/-- R24, R73, R132: a well-formed command other than ABORT, offered while the block is not BUSY, is latched with the
operand: `OVR`, `ERR` and `ABORT_REQ` are cleared and the block is BUSY, and for a BUILD the sweep starts at (0, 0, 0) and
the table is not valid; no other field changes. (For ABORT see AbortOnlyRequests.) -/
def Obligations.ValidCommandIsLatched : Prop :=
  ∀ (c : Instr) (s : State), s.cmdWritePending = true → s.run ≠ .busy → c.wellFormed = true →
    opField (encode c) ≠ 0x9#4 →
    exec c s = .next
      { s with agenda := s.agenda.tail, ovr := false, actOp := opField (encode c), actSel := selField (encode c),
               actQ := qField (encode c), actAb := abField (encode c), actOpnd := s.operand, abortReq := false,
               err := .none, run := .busy,
               i := if opField (encode c) = 0x8#4 then 0 else s.i,
               j := if opField (encode c) = 0x8#4 then 0 else s.j,
               k := if opField (encode c) = 0x8#4 then 0 else s.k,
               tag := if opField (encode c) = 0x8#4 then { s.tag with valid := false } else s.tag }

/-- R150 to R153, R156: a command that is not well-formed, offered while the block is not BUSY, is rejected:
`UnknownAlgorithmError` for a BUILD with `SEL = 7`, `ConfigurationError` for every other one. Nothing but `STATE`,
`ERR`, `RESULT` and `OVR` changes. -/
def Obligations.InvalidCommandIsRejected : Prop :=
  ∀ (c : Instr) (s : State), s.cmdWritePending = true → s.run ≠ .busy → c.wellFormed = false →
    exec c s = .next
      { s with agenda := s.agenda.tail, ovr := false, run := .error, result := 0,
               err := if opField (encode c) = 0x8#4 ∧ selField (encode c) = 7#3 then .unknownAlgorithmError
                      else .configurationError }

/-- R154: a word with a reserved opcode is rejected with `IllegalCommand` whatever its other fields hold. -/
def Obligations.ReservedOpcodeIsIllegalCommand : Prop :=
  ∀ (s : State) (v : Nat) (rest : List AgentAction), s.agenda = .hostWrite 1 v :: rest → s.run ≠ .busy →
    (v / 4096 % 16 = 0 ∨ 10 ≤ v / 4096 % 16) →
    step s = .next { s with agenda := rest, ovr := false, run := .error, err := .illegalCommand, result := 0 }

/-- R153: `SEL = 7` is `UnknownAlgorithmError` under DECODE and BUILD, and under no other opcode. Under every other opcode
`SEL` is ignored: two words that differ in `SEL` alone have the same outcome, apart from the latched `ACT_SEL`. -/
def Obligations.UnknownAlgorithmIsRejected : Prop :=
  (∀ (s : State) (v : Nat) (rest : List AgentAction), s.agenda = .hostWrite 1 v :: rest → s.run ≠ .busy →
    (v / 4096 % 16 = 7 ∨ v / 4096 % 16 = 8) → v / 512 % 8 = 7 →
    step s = .next { s with agenda := rest, ovr := false, run := .error, err := .unknownAlgorithmError, result := 0 }) ∧
  (∀ (s t : State) (v : Nat) (rest : List AgentAction), s.agenda = .hostWrite 1 v :: rest → s.run ≠ .busy →
    ¬((v / 4096 % 16 = 7 ∨ v / 4096 % 16 = 8) ∧ v / 512 % 8 = 7) → v / 4096 % 16 ≠ 9 →
    step s = .next t → t.err ≠ .unknownAlgorithmError) ∧
  (∀ (s t : State) (v : Nat) (rest : List AgentAction), s.agenda = .hostWrite 1 v :: rest → v / 4096 % 16 = 9 →
    step s = .next t → t.err = s.err) ∧
  (∀ (s : State) (v v' : Nat) (rest : List AgentAction), s.agenda = .hostWrite 1 v :: rest →
    v / 4096 % 16 = v' / 4096 % 16 → v % 512 = v' % 512 → v / 4096 % 16 ≠ 7 → v / 4096 % 16 ≠ 8 →
    ∃ t t' : State, step s = .next t ∧ step { s with agenda := .hostWrite 1 v' :: rest } = .next t' ∧
      { t' with actSel := t.actSel } = t)

/-- R155: a word other than ABORT's that is written while BUSY is dropped unchecked: `OVR` is set and nothing else
changes. -/
def Obligations.BusyBlockDropsCommands : Prop :=
  ∀ (s : State) (v : Nat) (rest : List AgentAction), s.agenda = .hostWrite 1 v :: rest → s.run = .busy →
    v / 4096 % 16 ≠ 9 → step s = .next { s with agenda := rest, ovr := true }

/-- R19: after any step `OVR` is 1 exactly when that step dropped a command, or it was 1 and the step was neither a
`CMD` write in a state other than BUSY nor a reset; and the dropping write has no other effect. -/
def Obligations.OverrunIsSticky : Prop :=
  (∀ s t : State, step s = .next t →
    (t.ovr = true ↔
      (∃ v rest, s.agenda = .hostWrite 1 v :: rest ∧ s.run = .busy ∧ v / 4096 % 16 ≠ 9) ∨
      (s.ovr = true ∧ (¬∃ v rest, s.agenda = .hostWrite 1 v :: rest ∧ s.run ≠ .busy) ∧
        ¬∃ rest, s.agenda = .reset :: rest))) ∧
  (∀ (s : State) (v : Nat) (rest : List AgentAction), s.agenda = .hostWrite 1 v :: rest → s.run = .busy →
    v / 4096 % 16 ≠ 9 → step s = .next { s with agenda := rest, ovr := true })

/-- R138: ABORT, whatever its other fields hold, sets `ABORT_REQ` and nothing else while BUSY, and clears `OVR` and
nothing else otherwise. -/
def Obligations.AbortOnlyRequests : Prop :=
  ∀ (sel : BitVec 3) (q : BitVec 5) (ab : BitVec 4) (s : State), s.cmdWritePending = true →
    exec (.abort sel q ab) s = .next (
      if s.run = .busy then { s with agenda := s.agenda.tail, abortReq := true }
      else { s with agenda := s.agenda.tail, ovr := false })

/-- R21: after any step `ABORT_REQ` is 1 exactly when that step was an ABORT written while BUSY, or it was 1 and the
step neither accepted a command, nor left BUSY, nor was a reset. -/
def Obligations.AbortRequestLifecycle : Prop :=
  ∀ s t : State, step s = .next t →
    (t.abortReq = true ↔
      (∃ v rest, s.agenda = .hostWrite 1 v :: rest ∧ s.run = .busy ∧ v / 4096 % 16 = 9) ∨
      (s.abortReq = true ∧ ¬(s.run ≠ .busy ∧ t.run = .busy) ∧ ¬(s.run = .busy ∧ t.run ≠ .busy) ∧
        ¬∃ rest, s.agenda = .reset :: rest))

/-! ### BitInterleave -/

/-- R82, R65: MENC completes, and its axes hold, for the six groups, the bits of the operand's low 16 bits shifted left
by `16 - q` and reduced to 18 bits; every higher axis bit is 0. -/
def Obligations.MencSpreadsTheShiftedValue : Prop :=
  ∀ (sel : BitVec 3) (q : BitVec 5) (ab : BitVec 4) (s : State), s.running (.menc sel q ab) →
    ∃ r : Word24,
      exec (.menc sel q ab) s = .next { s.yield with result := r, abortReq := false, run := .done } ∧
      ∀ g < 8,
        let n := s.actOpnd.toNat % 65536 * 2 ^ (16 - q.toNat) % 2 ^ 18
        r.getLsbD (16 + g) = (decide (g < 6) && n.testBit (3 * g + 2)) ∧
        r.getLsbD (8 + g) = (decide (g < 6) && n.testBit (3 * g + 1)) ∧
        r.getLsbD g = (decide (g < 6) && n.testBit (3 * g))

/-- R83, R65: MENCH completes, and its axes hold the `algoBits` groups of the 24-bit operand; every higher axis bit is
0. -/
def Obligations.MenchSpreadsTheValue : Prop :=
  ∀ (sel : BitVec 3) (q : BitVec 5) (ab : BitVec 4) (s : State), s.running (.mench sel q ab) →
    ∃ r : Word24,
      exec (.mench sel q ab) s = .next { s.yield with result := r, abortReq := false, run := .done } ∧
      ∀ g < 8,
        r.getLsbD (16 + g) = (decide (g < ab.toNat) && s.actOpnd.getLsbD (3 * g + 2)) ∧
        r.getLsbD (8 + g) = (decide (g < ab.toNat) && s.actOpnd.getLsbD (3 * g + 1)) ∧
        r.getLsbD g = (decide (g < ab.toNat) && s.actOpnd.getLsbD (3 * g))

/-- R84, R65: MDEC completes, and its result interleaves the low six bits of each axis; every higher bit is 0. -/
def Obligations.MdecGathersSixBits : Prop :=
  ∀ (sel : BitVec 3) (q : BitVec 5) (ab : BitVec 4) (s : State), s.running (.mdec sel q ab) →
    ∃ r : Word24,
      exec (.mdec sel q ab) s = .next { s.yield with result := r, abortReq := false, run := .done } ∧
      ∀ g < 8,
        r.getLsbD (3 * g + 2) = (decide (g < 6) && s.actOpnd.getLsbD (16 + g)) ∧
        r.getLsbD (3 * g + 1) = (decide (g < 6) && s.actOpnd.getLsbD (8 + g)) ∧
        r.getLsbD (3 * g) = (decide (g < 6) && s.actOpnd.getLsbD g)

/-- R85, R65: MDECH completes, and its result interleaves the low `algoBits` bits of each axis; every higher bit is 0. -/
def Obligations.MdechGathersAlgoBits : Prop :=
  ∀ (sel : BitVec 3) (q : BitVec 5) (ab : BitVec 4) (s : State), s.running (.mdech sel q ab) →
    ∃ r : Word24,
      exec (.mdech sel q ab) s = .next { s.yield with result := r, abortReq := false, run := .done } ∧
      ∀ g < 8,
        r.getLsbD (3 * g + 2) = (decide (g < ab.toNat) && s.actOpnd.getLsbD (16 + g)) ∧
        r.getLsbD (3 * g + 1) = (decide (g < ab.toNat) && s.actOpnd.getLsbD (8 + g)) ∧
        r.getLsbD (3 * g) = (decide (g < ab.toNat) && s.actOpnd.getLsbD g)

/-- R86, R87 (an inference the spec marks as its own): the interleave network and its inverse undo each other for every
number of groups, and a value with more bits comes back reduced. -/
def Obligations.InterleaveIsABijection : Prop :=
  (∀ groups v : Nat, ilDec (ilEnc v groups) groups = v % 2 ^ (3 * groups)) ∧
  (∀ (groups : Nat) (axes : Axes), axes.x < 2 ^ groups → axes.y < 2 ^ groups → axes.z < 2 ^ groups →
    ilEnc (ilDec axes groups) groups = axes)

/-- R86, C3 (an inference the spec marks as its own): in the fixed mode MDEC of MENC of a `q`-bit value is the value
shifted left by `16 - q`. -/
def Obligations.FixedModeRoundTrip : Prop :=
  ∀ q v : Nat, 1 ≤ q → q ≤ 16 → v < 2 ^ q → mdecValue (mencValue v q) = v * 2 ^ (16 - q)

/-! ### HilbertTransform -/

/-- R93, R65: HTO completes with the transform of R91 of its three axes. -/
def Obligations.HtoCompletes : Prop :=
  ∀ (sel : BitVec 3) (q : BitVec 5) (ab : BitVec 4) (s : State), s.running (.hto sel q ab) →
    let out := hto { x := s.actOpnd.toNat / 65536, y := s.actOpnd.toNat / 256 % 256, z := s.actOpnd.toNat % 256 } ab.toNat
    exec (.hto sel q ab) s = .next
      { s.yield with result := BitVec.ofNat 24 (out.x * 65536 + out.y * 256 + out.z), abortReq := false, run := .done }

/-- R94, R65: HFROM completes with the transform of R92 of its three axes. -/
def Obligations.HfromCompletes : Prop :=
  ∀ (sel : BitVec 3) (q : BitVec 5) (ab : BitVec 4) (s : State), s.running (.hfrom sel q ab) →
    let out := hfrom { x := s.actOpnd.toNat / 65536, y := s.actOpnd.toNat / 256 % 256, z := s.actOpnd.toNat % 256 } ab.toNat
    exec (.hfrom sel q ab) s = .next
      { s.yield with result := BitVec.ofNat 24 (out.x * 65536 + out.y * 256 + out.z), abortReq := false, run := .done }

/-- R95: for every `a` from 1 to 8 the two transforms undo each other on `[0, 2^a)³`, in both orders. -/
def Obligations.HilbertTransformsAreInverse : Prop :=
  ∀ (a : Nat) (c : Axes), 1 ≤ a → a ≤ 8 → c.x < 2 ^ a → c.y < 2 ^ a → c.z < 2 ^ a →
    hfrom (hto c a) a = c ∧ hto (hfrom c a) a = c

/-- R90: the transforms read only the low `a` bits of each axis, and every output axis is in `[0, 2^a)`. -/
def Obligations.HilbertAxesStayInRange : Prop :=
  ∀ (a : Nat) (c : Axes), 1 ≤ a → a ≤ 8 →
    hto c a = hto { x := c.x % 2 ^ a, y := c.y % 2 ^ a, z := c.z % 2 ^ a } a ∧
    hfrom c a = hfrom { x := c.x % 2 ^ a, y := c.y % 2 ^ a, z := c.z % 2 ^ a } a ∧
    ((hto c a).x < 2 ^ a ∧ (hto c a).y < 2 ^ a ∧ (hto c a).z < 2 ^ a) ∧
    ((hfrom c a).x < 2 ^ a ∧ (hfrom c a).y < 2 ^ a ∧ (hfrom c a).z < 2 ^ a)

/-- R96 (an inference the spec marks as its own): the curve `Pt(d, a) = HFROM(IL_ENC(d, a), a)` runs from the origin to
`(2^a - 1, 0, 0)`; its first nine points for `a` = 2, 5 and 8, and its eight points for `a` = 1, are those that R96
prints. For `a` = 3, 4, 6 and 7 the first nine points are R96's with the axes rotated, as R92 gives them: there the model
follows R92 against R96's list (DEDUCED, notes/assumptions/19.md). -/
def Obligations.HilbertCurveEnds : Prop :=
  let printed : List Axes :=
    [{ x := 0, y := 0, z := 0 }, { x := 0, y := 1, z := 0 }, { x := 1, y := 1, z := 0 }, { x := 1, y := 0, z := 0 },
     { x := 1, y := 0, z := 1 }, { x := 1, y := 1, z := 1 }, { x := 0, y := 1, z := 1 }, { x := 0, y := 0, z := 1 },
     { x := 0, y := 0, z := 2 }]
  (∀ a : Nat, 1 ≤ a → a ≤ 8 →
    hfrom (ilEnc 0 a) a = { x := 0, y := 0, z := 0 } ∧
    hfrom (ilEnc (2 ^ (3 * a) - 1) a) a = { x := 2 ^ a - 1, y := 0, z := 0 }) ∧
  (∀ a : Nat, a = 2 ∨ a = 5 ∨ a = 8 → ((List.range 9).map fun d => hfrom (ilEnc d a) a) = printed) ∧
  (∀ a : Nat, a = 3 ∨ a = 6 → ((List.range 9).map fun d => hfrom (ilEnc d a) a) =
    printed.map fun c => { x := c.y, y := c.z, z := c.x }) ∧
  (∀ a : Nat, a = 4 ∨ a = 7 → ((List.range 9).map fun d => hfrom (ilEnc d a) a) =
    printed.map fun c => { x := c.z, y := c.x, z := c.y }) ∧
  ((List.range 8).map fun d => hfrom (ilEnc d 1) 1) =
    [{ x := 0, y := 0, z := 0 }, { x := 0, y := 0, z := 1 }, { x := 0, y := 1, z := 1 }, { x := 0, y := 1, z := 0 },
     { x := 1, y := 1, z := 0 }, { x := 1, y := 1, z := 1 }, { x := 1, y := 0, z := 1 }, { x := 1, y := 0, z := 0 }]

/-- R96 (an inference the spec marks as its own): consecutive points of the curve differ by exactly 1 in exactly one
axis. -/
def Obligations.HilbertCurveIsContinuous : Prop :=
  ∀ a d : Nat, 1 ≤ a → a ≤ 8 → d + 1 < 2 ^ (3 * a) →
    let p := hfrom (ilEnc d a) a
    let n := hfrom (ilEnc (d + 1) a) a
    ((n.x : Int) - p.x).natAbs + ((n.y : Int) - p.y).natAbs + ((n.z : Int) - p.z).natAbs = 1

/-! ### The decoders -/

/-- R100 to R105: DECODE.hilbert completes with the five steps: split and re-centre, distance, clamped neighbours,
interpolation along the curve's direction, scaling reduced to 16 bits. -/
def Obligations.DecodeHilbertInterpolates : Prop :=
  ∀ (q : BitVec 5) (ab : BitVec 4) (s : State), s.running (.decodeHilbert q ab) →
    let r := s.actOpnd.toNat / 65536
    let g := s.actOpnd.toNat / 256 % 256
    let b := s.actOpnd.toNat % 256
    let a := ab.toNat
    let side : Nat := 2 ^ (8 - a)
    let offset : Nat → Int := fun c => if side / 2 < c % side then (c % side : Nat) - (side : Int) else (c % side : Nat)
    let coarse : Nat → Nat := fun c => (if side / 2 < c % side then c + side / 2 else c) / side % 2 ^ a
    let d : Int := ilDec (hto { x := coarse b, y := coarse g, z := coarse r } a) a
    let near : Int → Axes := fun e => hfrom (ilEnc (max 0 (min (2 ^ q.toNat - 1) e)).toNat a) a
    let acc : Int := d * side + offset r * Int.sign ((near (d + 1)).z - (near (d - 1)).z) +
      offset g * Int.sign ((near (d + 1)).y - (near (d - 1)).y) +
      offset b * Int.sign ((near (d + 1)).x - (near (d - 1)).x)
    exec (.decodeHilbert q ab) s = .next
      { s.yield with result := BitVec.ofNat 24 (acc * 2 ^ (16 - q.toNat) % 65536).toNat, abortReq := false,
                     run := .done }

/-- R107 (an inference the spec marks as its own): the colour at the grid point of curve distance `d` decodes, before
the reduction to 16 bits, to `d · side · 2^(16 - q)`; so consecutive grid points are exactly `side · 2^(16 - q)` apart. -/
def Obligations.HilbertGridColoursAreEvenlySpaced : Prop :=
  ∀ a q d : Nat, 1 ≤ a → a ≤ 8 → a ≤ q → q ≤ 16 → d < 2 ^ (3 * a) →
    let side := 2 ^ (8 - a)
    let p := hfrom (ilEnc d a) a
    hilbertScaled (p.z * side) (p.y * side) (p.x * side) q a = d * side * 2 ^ (16 - q)

/-- R112, R65: DECODE.morton completes; bit `p` of its depth is bit `p / 3` of B, G or R for `p mod 3` = 0, 1, 2, and
bits 23:16 of the result are 0. -/
def Obligations.DecodeMortonInterleavesChannels : Prop :=
  ∀ (q : BitVec 5) (ab : BitVec 4) (s : State), s.running (.decodeMorton q ab) →
    ∃ r : Word24,
      exec (.decodeMorton q ab) s = .next { s.yield with result := r, abortReq := false, run := .done } ∧
      ∀ p < 24, r.getLsbD p = (decide (p < 16) &&
        if p % 3 = 0 then s.actOpnd.getLsbD (p / 3)
        else if p % 3 = 1 then s.actOpnd.getLsbD (8 + p / 3)
        else s.actOpnd.getLsbD (16 + p / 3))

/-- R113: DECODE.packed completes with `((high << (q - a)) + low) << (16 - q)`, which is below `2^16`: no wrap. -/
def Obligations.DecodePackedJoinsTheParts : Prop :=
  ∀ (q : BitVec 5) (ab : BitVec 4) (s : State), s.running (.decodePacked q ab) →
    let high := s.actOpnd.toNat / 65536 / 2 ^ (8 - ab.toNat)
    let low := s.actOpnd.toNat / 256 % 256 / 2 ^ (8 - (q.toNat - ab.toNat))
    let depth := (high * 2 ^ (q.toNat - ab.toNat) + low) * 2 ^ (16 - q.toNat)
    depth < 65536 ∧
    exec (.decodePacked q ab) s = .next
      { s.yield with result := BitVec.ofNat 24 depth, abortReq := false, run := .done }

/-- R114: DECODE.split completes as packed does, with the low part reflected when the high part is odd; no wrap. -/
def Obligations.DecodeSplitReflectsOddRows : Prop :=
  ∀ (q : BitVec 5) (ab : BitVec 4) (s : State), s.running (.decodeSplit q ab) →
    let high := s.actOpnd.toNat / 65536 / 2 ^ (8 - ab.toNat)
    let raw := s.actOpnd.toNat / 256 % 256 / 2 ^ (8 - (q.toNat - ab.toNat))
    let low := if high % 2 = 1 then 2 ^ (q.toNat - ab.toNat) - raw - 1 else raw
    let depth := (high * 2 ^ (q.toNat - ab.toNat) + low) * 2 ^ (16 - q.toNat)
    depth < 65536 ∧
    exec (.decodeSplit q ab) s = .next
      { s.yield with result := BitVec.ofNat 24 depth, abortReq := false, run := .done }

/-- R114, DS §8 "bounded step": where the high part goes from `h` to `h + 1` and channel 1 stays at the end that the
row `h` runs to (255 for an even row, 0 for an odd one), the split depth rises by exactly one step `2^(16 - q)`. -/
def Obligations.SplitIsContinuousAcrossRows : Prop :=
  ∀ q a h : Nat, 1 ≤ a → a ≤ 8 → a ≤ q → q ≤ 16 → q - a ≤ 8 → h + 1 < 2 ^ a →
    let g := if h % 2 = 0 then 255 else 0
    splitValue ((h + 1) * 2 ^ (8 - a)) g q a = splitValue (h * 2 ^ (8 - a)) g q a + 2 ^ (16 - q)

/-- R115, R116: DECODE.triangle completes with `floor((L0 + delta)·65536)` in exact rational arithmetic, with the
literal base level. -/
def Obligations.DecodeTriangleIsTheRationalFormula : Prop :=
  ∀ (q : BitVec 5) (ab : BitVec 4) (s : State), s.running (.decodeTriangle q ab) →
    let p : ℚ := 512 / 65536
    let ld : ℚ := (s.actOpnd.toNat / 65536 : Nat) / 255
    let ha : ℚ := (s.actOpnd.toNat / 256 % 256 : Nat) / 255
    let hb : ℚ := (s.actOpnd.toNat % 256 : Nat) / 255
    let m : Int := ⌊4 * (ld / p) - (if 0 < ld then 1 / 2 else 0)⌋ % 4
    let base : ℚ := ld - (ld - p / 8) + p / 4 * m - p / 8
    let delta : ℚ := p / 2 * (if m = 0 then ha else if m = 1 then hb else if m = 2 then 1 - ha else 1 - hb)
    exec (.decodeTriangle q ab) s = .next
      { s.yield with result := BitVec.ofNat 24 ⌊(base + delta) * 65536⌋.toNat, abortReq := false, run := .done }

/-- R118: DECODE.phase completes with `Z` clamped to [0, 65535]; `Z` is never negative, and from `G = 2` on the result
is 65535. R119, of the ROM it reads: 8192 at 0 and 0 at 255, strictly falling, with entries that complement each other to
8192 (acos(-x) = pi - acos(x)), and the entries 7865, 5455 and 4086 printed at 1, 64 and 128. -/
def Obligations.DecodePhaseUnwrapsAndClamps : Prop :=
  (∀ (q : BitVec 5) (ab : BitVec 4) (s : State), s.running (.decodePhase q ab) →
    let r := s.actOpnd.toNat / 65536
    let g := s.actOpnd.toNat / 256 % 256
    let wraps : Int := (g * 65535 + 8192) / 16384
    let z : Int := if g * 65535 / 8192 % 2 = 1 then 16384 * wraps - phaseRom r else 16384 * wraps + phaseRom r
    0 ≤ z ∧ (2 ≤ g → 65535 ≤ z) ∧
    exec (.decodePhase q ab) s = .next
      { s.yield with result := BitVec.ofNat 24 (min 65535 z).toNat, abortReq := false, run := .done }) ∧
  (phaseRom 0 = 8192 ∧ phaseRom 1 = 7865 ∧ phaseRom 64 = 5455 ∧ phaseRom 128 = 4086 ∧ phaseRom 255 = 0) ∧
  (∀ c : Nat, c < 255 → phaseRom (c + 1) < phaseRom c) ∧
  (∀ c : Nat, c < 256 → phaseRom c ≤ 8192 ∧ phaseRom c + phaseRom (255 - c) = 8192)

/-- R120, R121: DECODE.hue completes with the rescaled raw metric, which is in [0, 1528], and with 0 when the channel
sum is below 255; no wrap. -/
def Obligations.DecodeHueRescalesTheSextants : Prop :=
  ∀ (q : BitVec 5) (ab : BitVec 4) (s : State), s.running (.decodeHue q ab) →
    let r : Int := (s.actOpnd.toNat / 65536 : Nat)
    let g : Int := (s.actOpnd.toNat / 256 % 256 : Nat)
    let b : Int := (s.actOpnd.toNat % 256 : Nat)
    let raw : Int :=
      if r ≥ g ∧ r ≥ b then (if g ≥ b then g - b else g - b + 1529)
      else if g ≥ r ∧ g ≥ b then b - r + 510
      else r - g + 1020
    let depth : Int := if r + g + b < 255 then 0 else raw * (2 ^ q.toNat - 1) / 1529 * 2 ^ (16 - q.toNat)
    0 ≤ raw ∧ raw ≤ 1528 ∧ depth < 65536 ∧
    exec (.decodeHue q ab) s = .next
      { s.yield with result := BitVec.ofNat 24 depth.toNat, abortReq := false, run := .done }

/-! ### BUILD -/

/-- R134, R135, R45, R46: a BUILD step that neither takes an abort nor writes the last cell writes the three bytes of
the current cell and no other byte, and moves to the next cell in the sweep order. -/
def Obligations.BuildStepWritesOneCell : Prop :=
  ∀ (sel : BitVec 3) (q : BitVec 5) (ab : BitVec 4) (algo : AlgorithmId) (s : State),
    s.running (.build sel q ab) → algorithmOf sel = some algo →
    s.i.toNat ≤ 254 → s.j.toNat ≤ 254 → s.k.toNat ≤ 254 → ¬(s.abortReq = true ∧ s.k = 0) →
    cellNumber s.i.toNat s.j.toNat s.k.toNat < 16581374 →
    ∃ t, exec (.build sel q ab) s = .next t ∧
      t = { s.yield with tbl := t.tbl, i := t.i, j := t.j, k := t.k } ∧
      (t.i.toNat ≤ 254 ∧ t.j.toNat ≤ 254 ∧ t.k.toNat ≤ 254) ∧
      cellNumber t.i.toNat t.j.toNat t.k.toNat = cellNumber s.i.toNat s.j.toNat s.k.toNat + 1 ∧
      cellHolds t.tbl algo q.toNat ab.toNat s.i.toNat s.j.toNat s.k.toNat ∧
      ∀ addr, (addr < cellBase s.i.toNat s.j.toNat s.k.toNat ∨ cellBase s.i.toNat s.j.toNat s.k.toNat + 3 ≤ addr) →
        t.tbl.stored addr = s.tbl.stored addr

/-- R134, R22: the BUILD step of cell (254, 254, 254) writes it and no other byte, wraps the counter to (0, 0, 0),
writes the tag and ends in DONE. -/
def Obligations.BuildLastStepCompletes : Prop :=
  ∀ (sel : BitVec 3) (q : BitVec 5) (ab : BitVec 4) (algo : AlgorithmId) (s : State),
    s.running (.build sel q ab) → algorithmOf sel = some algo → s.i = 254#8 → s.j = 254#8 → s.k = 254#8 →
    ∃ t, exec (.build sel q ab) s = .next t ∧
      t = { s.yield with tbl := t.tbl, i := 0, j := 0, k := 0, abortReq := false, run := .done,
                         tag := { valid := true, algo := sel, q := q, ab := ab } } ∧
      cellHolds t.tbl algo q.toNat ab.toNat 254 254 254 ∧
      ∀ addr, (addr < 49744122 ∨ 49744125 ≤ addr) → t.tbl.stored addr = s.tbl.stored addr

/-- R134, R136: a BUILD step at the start of a row with `ABORT_REQ` set writes nothing and ends in ABORTED. -/
def Obligations.BuildStepTakesTheAbort : Prop :=
  ∀ (sel : BitVec 3) (q : BitVec 5) (ab : BitVec 4) (s : State), s.running (.build sel q ab) →
    s.abortReq = true → s.k = 0 →
    exec (.build sel q ab) s = .next { s.yield with abortReq := false, run := .aborted }

/-- R132, R134, R180 (and R137, an inference the spec marks as its own): from any state that is not BUSY, a host write of a valid BUILD followed by nothing but SEQ steps
ends after 1 + 16,581,375 steps in DONE, with every cell of the table holding its colour's depth, the tag written, the
counter at 0, and `RESULT` and `OPERAND` as before. -/
def Obligations.BuildFillsTheTable : Prop :=
  ∀ (sel : BitVec 3) (q : BitVec 5) (ab : BitVec 4) (algo : AlgorithmId) (s : State) (v : Nat),
    s.run ≠ .busy → s.agenda = [.hostWrite 1 v] → decodeWord (BitVec.ofNat 16 v) = .ok (.build sel q ab) →
    Instr.wellFormed (.build sel q ab) = true → algorithmOf sel = some algo →
    ∃ t : State, Host.Core.run Sys2Proof.core 16581376 s = .next t ∧
      t.run = .done ∧ t.err = .none ∧ t.tag = { valid := true, algo := sel, q := q, ab := ab } ∧
      t.i = 0 ∧ t.j = 0 ∧ t.k = 0 ∧ t.result = s.result ∧ t.operand = s.operand ∧
      tableHolds t.tbl algo q.toNat ab.toNat

/-- R136, R178: with `ABORT_REQ` set inside a row that is not the last, and the host doing nothing (`agenda` empty), SEQ
finishes the row and stops at the start of the next one, 256 - K steps on. It writes the row's remaining cells and no
other byte, so if the cells before the current one held the new table, all cells before the stop do, that row complete. -/
def Obligations.AbortStopsAtTheRowBoundary : Prop :=
  ∀ (sel : BitVec 3) (q : BitVec 5) (ab : BitVec 4) (algo : AlgorithmId) (s : State),
    s.running (.build sel q ab) → algorithmOf sel = some algo → s.agenda = [] → s.abortReq = true →
    s.i.toNat ≤ 254 → s.j.toNat ≤ 254 → 0 < s.k.toNat → s.k.toNat ≤ 254 → (s.i.toNat < 254 ∨ s.j.toNat < 254) →
    ∃ t : State, Host.Core.run Sys2Proof.core (256 - s.k.toNat) s = .next t ∧
      t.run = .aborted ∧ t.abortReq = false ∧ t.k = 0 ∧ t.tag = s.tag ∧
      t.i.toNat ≤ 254 ∧ t.j.toNat ≤ 254 ∧
      cellNumber t.i.toNat t.j.toNat 0 = cellNumber s.i.toNat s.j.toNat 255 ∧
      (sweptBelow s.tbl algo q.toNat ab.toNat (cellNumber s.i.toNat s.j.toNat s.k.toNat) →
        sweptBelow t.tbl algo q.toNat ab.toNat (cellNumber t.i.toNat t.j.toNat 0)) ∧
      (∀ k', s.k.toNat ≤ k' → k' < 255 → cellHolds t.tbl algo q.toNat ab.toNat s.i.toNat s.j.toNat k') ∧
      ∀ addr, (addr < cellBase s.i.toNat s.j.toNat s.k.toNat ∨ cellBase s.i.toNat s.j.toNat 255 ≤ addr) →
        t.tbl.stored addr = s.tbl.stored addr

/-- R136: with the host doing nothing meanwhile (`agenda` empty), a request that is pending inside the last row is lost,
and the build completes as DONE. -/
def Obligations.AbortInTheLastRowIsLost : Prop :=
  ∀ (sel : BitVec 3) (q : BitVec 5) (ab : BitVec 4) (s : State),
    s.running (.build sel q ab) → s.agenda = [] → s.abortReq = true →
    s.i = 254#8 → s.j = 254#8 → 0 < s.k.toNat → s.k.toNat ≤ 254 →
    ∃ t : State, Host.Core.run Sys2Proof.core (255 - s.k.toNat) s = .next t ∧
      t.run = .done ∧ t.abortReq = false ∧ t.tag = { valid := true, algo := sel, q := q, ab := ab } ∧
      t.i = 0 ∧ t.j = 0 ∧ t.k = 0

/-- R139 (an inference the spec marks as its own), at the step that writes the cell: the two depth bytes that a BUILD
writes for colour (I, J, K) are those of a DECODE of the same algorithm and configuration on the operand {I, J, K}. -/
def Obligations.CellAgreesWithSingleDecode : Prop :=
  ∀ (sel : BitVec 3) (q : BitVec 5) (ab : BitVec 4) (algo : AlgorithmId) (s u : State),
    s.running (.build sel q ab) → algorithmOf sel = some algo → u.running (decodeCommand algo q ab) →
    ¬(s.abortReq = true ∧ s.k = 0) →
    u.actOpnd.toNat = s.i.toNat * 65536 + s.j.toNat * 256 + s.k.toNat →
    ∃ t w, exec (.build sel q ab) s = .next t ∧ exec (decodeCommand algo q ab) u = .next w ∧
      t.tbl.stored (cellBase s.i.toNat s.j.toNat s.k.toNat) = some (w.result.extractLsb' 8 8) ∧
      t.tbl.stored (cellBase s.i.toNat s.j.toNat s.k.toNat + 1) = some (w.result.extractLsb' 0 8) ∧
      w.result.toNat < 65536

/-- R46: the address map is dense: every address of the table is one of the three bytes of exactly one cell. -/
def Obligations.AddressMapIsDense : Prop :=
  ∀ addr : Nat, addr < Config.tblBytes ↔
    ∃! p : Nat × Nat × Nat × Nat, p.1 < 255 ∧ p.2.1 < 255 ∧ p.2.2.1 < 255 ∧ p.2.2.2 < 3 ∧
      addr = cellBase p.1 p.2.1 p.2.2.1 + p.2.2.2

/-! ### The block as a whole -/

/-- R27, R171: the invariant holds right after power-on reset. -/
def Obligations.InvariantHoldsAtReset : Prop := State.reset.Inv

/-- R14, R20 to R22, R24, R136, R139: every action of either agent, in any order, keeps the invariant; in particular
`VALID = 1` always says the truth about the table. -/
def Obligations.InvariantIsKeptByEveryStep : Prop :=
  ∀ s t : State, s.Inv → step s = .next t → t.Inv

/-- R131, R159: where the latches hold an accepted command whenever the block is BUSY, a step never faults; it is
refused only for an access that the host interface does not have (R11, R42). -/
def Obligations.OnlyMissingAccessesStopTheBlock : Prop :=
  ∀ s : State, s.Inv →
    (∃ t, step s = .next t) ∨
    (∃ n rest, s.agenda = .hostRead n :: rest ∧ 5 < n ∧ step s = .refused (.noSuchRegister n)) ∨
    (∃ n v rest, s.agenda = .hostWrite n v :: rest ∧ 5 < n ∧ step s = .refused (.noSuchRegister n)) ∨
    (∃ addr rest, s.agenda = .tblRead addr :: rest ∧ 49744125 ≤ addr ∧ step s = .refused (.noSuchTableByte addr))

/-- R23, R24, R170, U1: the latches change only when a command is accepted while the block is not BUSY, or at a reset,
which clears them; while BUSY nothing but a reset reaches them. -/
def Obligations.LatchesChangeOnlyAtAcceptance : Prop :=
  ∀ s t : State, step s = .next t →
    (t.actOp = s.actOp ∧ t.actSel = s.actSel ∧ t.actQ = s.actQ ∧ t.actAb = s.actAb ∧ t.actOpnd = s.actOpnd) ∨
    (s.run ≠ .busy ∧ t.run = .busy ∧ t.actOpnd = s.operand ∧
      ∃ v rest, s.agenda = .hostWrite 1 v :: rest ∧ t.latchedWord = BitVec.ofNat 16 v) ∨
    (∃ rest, s.agenda = .reset :: rest ∧ t.latchedWord = 0 ∧ t.actOpnd = 0)

/-- R15: `RESULT` changes only when a single-result command completes, when a command is rejected, and at a reset; the
last two leave 0. -/
def Obligations.ResultChangesOnlyAtCompletion : Prop :=
  ∀ s t : State, step s = .next t → t.result ≠ s.result →
    (s.run = .busy ∧ t.run = .done ∧ s.actOp ≠ 0x8#4 ∧ s.sequencerNext) ∨
    (s.run ≠ .busy ∧ t.run = .error ∧ t.result = 0 ∧ s.cmdWritePending = true) ∨
    (t.result = 0 ∧ ∃ rest, s.agenda = .reset :: rest)

/-- R25, R41, R45: a step changes table bytes only as SEQ's step of a BUSY BUILD, and then only the three bytes of the
current cell. -/
def Obligations.OnlyBuildStepsWriteTheTable : Prop :=
  ∀ s t : State, step s = .next t →
    t.tbl = s.tbl ∨
    (s.run = .busy ∧ s.actOp = 0x8#4 ∧ s.sequencerNext ∧
      ∀ addr, (addr < cellBase s.i.toNat s.j.toNat s.k.toNat ∨ cellBase s.i.toNat s.j.toNat s.k.toNat + 3 ≤ addr) →
        t.tbl.stored addr = s.tbl.stored addr)

/-- R12: only the host's write to register 0 and a reset change `OPERAND`; the write keeps the low 24 bits. -/
def Obligations.OnlyTheHostWritesOperand : Prop :=
  ∀ s t : State, step s = .next t →
    ((∃ v rest, s.agenda = .hostWrite 0 v :: rest) → ∃ v rest, s.agenda = .hostWrite 0 v :: rest ∧
      t.operand.toNat = v % 2 ^ 24) ∧
    ((∃ rest, s.agenda = .reset :: rest) → t.operand = 0) ∧
    ((¬∃ v rest, s.agenda = .hostWrite 0 v :: rest) → (¬∃ rest, s.agenda = .reset :: rest) → t.operand = s.operand)

/-- R14: the state machine of `STATUS.STATE`: a submitted word leads from a state other than BUSY to BUSY or ERROR, a
SEQ step from BUSY to BUSY, DONE or ABORTED, and only a reset enters IDLE. -/
def Obligations.StateMachineOfTheBlock : Prop :=
  ∀ s t : State, step s = .next t →
    t.run = s.run ∨
    (s.run ≠ .busy ∧ (t.run = .busy ∨ t.run = .error) ∧ s.cmdWritePending = true) ∨
    (s.run = .busy ∧ (t.run = .done ∨ t.run = .aborted) ∧ s.sequencerNext) ∨
    (t.run = .idle ∧ ∃ rest, s.agenda = .reset :: rest)

/-- R20, R22: `TBLTAG` changes only at the acceptance of a BUILD (`VALID` drops, the other fields stay), at a BUILD's
completion (the latched algorithm and configuration) and at a reset; the sweep counter only at the acceptance of a
BUILD, in its steps, and at a reset. -/
def Obligations.TagAndCounterFollowBuilds : Prop :=
  ∀ s t : State, step s = .next t →
    (t.tag = s.tag ∨
      (s.run ≠ .busy ∧ t.run = .busy ∧ t.actOp = 0x8#4 ∧ t.tag = { s.tag with valid := false }) ∨
      (s.run = .busy ∧ s.actOp = 0x8#4 ∧ t.run = .done ∧
        t.tag = { valid := true, algo := s.actSel, q := s.actQ, ab := s.actAb }) ∨
      (∃ rest, s.agenda = .reset :: rest ∧ t.tag = { valid := false, algo := 0, q := 0, ab := 0 })) ∧
    ((t.i = s.i ∧ t.j = s.j ∧ t.k = s.k) ∨
      (s.run ≠ .busy ∧ t.run = .busy ∧ t.actOp = 0x8#4 ∧ t.i = 0 ∧ t.j = 0 ∧ t.k = 0) ∨
      (s.run = .busy ∧ s.actOp = 0x8#4 ∧ s.sequencerNext) ∨
      (t.i = 0 ∧ t.j = 0 ∧ t.k = 0 ∧ ∃ rest, s.agenda = .reset :: rest))

/-- R9, R23, R176: what a single-result command leaves in `RESULT` depends on the command and the latched operand only,
not on `OPERAND`, the table, the tag, or anything else in the state. -/
def Obligations.ResultDependsOnTheLatchesOnly : Prop :=
  ∀ (c : Instr) (s u : State), s.running c → u.running c → s.actOpnd = u.actOpnd →
    opField (encode c) ≠ 0x8#4 → opField (encode c) ≠ 0x9#4 →
    ∃ t w, exec c s = .next t ∧ exec c u = .next w ∧ t.result = w.result

/-- R8, R164, R171: SEQ has no enabled step in a state other than BUSY: a pending SEQ move passes and nothing else
changes, and with nothing pending the state stays as it is. (The second clause, the stop of notes/assumptions/7.md, is
the model's choice: BUSY with latches that do not hold the command as accepted has no rule.) -/
def Obligations.SequencerMovesOnlyAcceptedCommands : Prop :=
  (∀ s : State, s.sequencerNext → s.run ≠ .busy → step s = .next { s with agenda := s.agenda.tail }) ∧
  (∀ (c : Instr) (s : State), s.cmdWritePending = false → s.run = .busy →
    (s.latchedWord ≠ encode c ∨ c.wellFormed = false ∨ opField (encode c) = 0x9#4) →
    exec c s = .fault .noSequencerStep)

/-! ### The host's accesses -/

/-- R11, R14, R17, R20, R22: what `HostRead` returns for each register, with no side effect; above register 5 there is
no such access. -/
def Obligations.HostReadReturnsTheRegister : Prop :=
  ∀ (s : State) (n : Nat) (rest : List AgentAction), s.agenda = .hostRead n :: rest →
    (n ≤ 5 → ∃ v : Word24, step s = .next { s with agenda := rest, reply := some v } ∧
      (n = 0 → v = s.operand) ∧
      (n = 1 → v = 0) ∧
      (n = 2 → v.toNat =
        (match s.run with | .idle => 0 | .busy => 1 | .done => 2 | .error => 3 | .aborted => 4) +
        8 * (match s.err with
          | .none => 0 | .configurationError => 1 | .unknownAlgorithmError => 2 | .illegalCommand => 3) +
        64 * s.ovr.toNat) ∧
      (n = 3 → v = s.result) ∧
      (n = 4 → v.toNat = s.i.toNat * 65536 + s.j.toNat * 256 + s.k.toNat) ∧
      (n = 5 → v.toNat = s.tag.valid.toNat * 4096 + s.tag.algo.toNat * 512 + s.tag.q.toNat * 16 + s.tag.ab.toNat)) ∧
    (5 < n → step s = .refused (.noSuchRegister n))

/-- R11, R47: a write to register 0 stores the low 24 bits, the read-only registers 2 to 5 ignore a write, and above
register 5 there is no such access. (A write to register 1 is SubmittedWordFollowsAcceptance.) -/
def Obligations.HostWriteStoresOrIsIgnored : Prop :=
  ∀ (s : State) (n v : Nat) (rest : List AgentAction), s.agenda = .hostWrite n v :: rest →
    (n = 0 → step s = .next { s with agenda := rest, operand := BitVec.ofNat 24 v }) ∧
    (2 ≤ n → n ≤ 5 → step s = .next { s with agenda := rest }) ∧
    (5 < n → step s = .refused (.noSuchRegister n))

/-- R42, R48, R49: `TblRead` returns the byte that was stored last at the address, or `TBL_init` where none has been
stored; so of a cell that a build has written it returns the depth's high byte, its low byte and the padding. While a
BUILD is BUSY it returns some byte. It changes nothing of the block, and at or above `TBL_BYTES` there is no such access.
(Where the reply goes is notes/assumptions/3.md, the counter notes/assumptions/6.md.) -/
def Obligations.TableReadReturnsAByte : Prop :=
  ∀ (s : State) (addr : Nat) (rest : List AgentAction), s.agenda = .tblRead addr :: rest →
    (addr < 49744125 → ¬(s.run = .busy ∧ s.actOp = 0x8#4) → ∃ b : Byte,
      step s = .next { s with agenda := rest, reply := some (BitVec.ofNat 24 b.toNat) } ∧
      (∀ b', s.tbl.stored addr = some b' → b = b') ∧
      (s.tbl.stored addr = none → b = Config.tblInit addr) ∧
      (∀ (algo : AlgorithmId) (q a i j k : Nat), cellHolds s.tbl algo q a i j k →
        (addr = cellBase i j k → b.toNat = (decodeColour algo i j k q a).toNat / 256) ∧
        (addr = cellBase i j k + 1 → b.toNat = (decodeColour algo i j k q a).toNat % 256) ∧
        (addr = cellBase i j k + 2 → b = 0#8))) ∧
    (addr < 49744125 → s.run = .busy → s.actOp = 0x8#4 → ∃ b : Byte,
      step s = .next { s with agenda := rest, reply := some (BitVec.ofNat 24 b.toNat),
                              freeCount := s.freeCount + 1 }) ∧
    (49744125 ≤ addr → step s = .refused (.noSuchTableByte addr))

/-- R27, R170, R171: in every state a reset sets every register to 0, `STATE` to IDLE, and leaves every table byte as it
was; the power-on state has the same registers, and every table byte of it is the open parameter `TBL_init`.
(That no byte is listed at power-on is the model's choice, notes/assumptions/5.md; that a reset leaves the model's own
fields `agenda`, `reply` and `freeCount` is its reading, notes/assumptions/13.md and 6.md.) -/
def Obligations.ResetClearsRegistersAndKeepsTheTable : Prop :=
  (∀ (s : State) (rest : List AgentAction), s.agenda = .reset :: rest →
    step s = .next
      { operand := 0, result := 0, run := .idle, err := .none, ovr := false, i := 0, j := 0, k := 0,
        tag := { valid := false, algo := 0, q := 0, ab := 0 }, abortReq := false, actOp := 0, actSel := 0, actQ := 0,
        actAb := 0, actOpnd := 0, tbl := s.tbl, agenda := rest, reply := s.reply, freeCount := s.freeCount }) ∧
  (State.reset.operand = 0 ∧ State.reset.result = 0 ∧ State.reset.run = .idle ∧ State.reset.err = .none ∧
    State.reset.ovr = false ∧ State.reset.i = 0 ∧ State.reset.j = 0 ∧ State.reset.k = 0 ∧
    State.reset.tag = { valid := false, algo := 0, q := 0, ab := 0 } ∧ State.reset.abortReq = false ∧
    State.reset.actOp = 0 ∧ State.reset.actSel = 0 ∧ State.reset.actQ = 0 ∧ State.reset.actAb = 0 ∧
    State.reset.actOpnd = 0 ∧ ∀ addr, State.reset.tbl.stored addr = none ∧
      State.reset.tbl.read addr = Config.tblInit addr)

/-! ### Worked examples -/

/-- The examples that R93, R94 and R106 print, and the widest rows of 95_test_vectors.md, section 3: the axes keep their
order, and input bits at and above `a` are dropped. -/
def Obligations.HilbertWorkedExamples : Prop :=
  hto { x := 5, y := 10, z := 20 } 5 = { x := 10, y := 14, z := 27 } ∧
  hto { x := 37, y := 10, z := 52 } 5 = { x := 10, y := 14, z := 27 } ∧
  hto { x := 25, y := 19, z := 12 } 5 = { x := 30, y := 13, z := 6 } ∧
  hto { x := 18, y := 52, z := 86 } 8 = { x := 76, y := 97, z := 112 } ∧
  hfrom { x := 10, y := 14, z := 27 } 5 = { x := 5, y := 10, z := 20 } ∧
  hfrom { x := 31, y := 0, z := 0 } 5 = { x := 21, y := 31, z := 10 } ∧
  hfrom { x := 18, y := 52, z := 86 } 8 = { x := 30, y := 105, z := 33 }
end

