-- ==== Sys2Proof/Laws/Decode.lean ====
section
/-! SUPPORT. The fields of a word that was put together from fields. -/

namespace Sys2Proof

variable (op : BitVec 4) (sel : BitVec 3) (q : BitVec 5) (ab : BitVec 4)

/-- The word as a number: the spec's own formula (R61). -/
theorem commandWord_toNat :
    (commandWord op sel q ab).toNat = op.toNat * 4096 + sel.toNat * 512 + q.toNat * 16 + ab.toNat := by
  have h1 := op.isLt
  have h2 := sel.isLt
  have h3 := q.isLt
  have h4 := ab.isLt
  have e1 := Nat.shiftLeft_add_eq_or_of_lt h2 op.toNat
  have e2 := Nat.shiftLeft_add_eq_or_of_lt h3 (op.toNat <<< 3 + sel.toNat)
  have e3 := Nat.shiftLeft_add_eq_or_of_lt h4 ((op.toNat <<< 3 + sel.toNat) <<< 5 + q.toNat)
  simp only [commandWord, BitVec.toNat_append]
  rw [← e1, ← e2, ← e3]
  simp only [Nat.shiftLeft_eq]
  omega

@[simp] theorem opField_commandWord : opField (commandWord op sel q ab) = op := by
  apply BitVec.eq_of_toNat_eq
  have h1 := op.isLt
  have h2 := sel.isLt
  have h3 := q.isLt
  have h4 := ab.isLt
  simp only [opField, BitVec.extractLsb'_toNat, commandWord_toNat, Nat.shiftRight_eq_div_pow]
  omega

@[simp] theorem selField_commandWord : selField (commandWord op sel q ab) = sel := by
  apply BitVec.eq_of_toNat_eq
  have h1 := op.isLt
  have h2 := sel.isLt
  have h3 := q.isLt
  have h4 := ab.isLt
  simp only [selField, BitVec.extractLsb'_toNat, commandWord_toNat, Nat.shiftRight_eq_div_pow]
  omega

@[simp] theorem qField_commandWord : qField (commandWord op sel q ab) = q := by
  apply BitVec.eq_of_toNat_eq
  have h1 := op.isLt
  have h2 := sel.isLt
  have h3 := q.isLt
  have h4 := ab.isLt
  simp only [qField, BitVec.extractLsb'_toNat, commandWord_toNat, Nat.shiftRight_eq_div_pow]
  omega

@[simp] theorem abField_commandWord : abField (commandWord op sel q ab) = ab := by
  apply BitVec.eq_of_toNat_eq
  have h1 := op.isLt
  have h2 := sel.isLt
  have h3 := q.isLt
  have h4 := ab.isLt
  simp only [abField, BitVec.extractLsb'_toNat, commandWord_toNat, Nat.shiftRight_eq_div_pow]
  omega

/-- A word is put together from its own fields (R61). -/
theorem commandWord_fields (w : Word) : commandWord (opField w) (selField w) (qField w) (abField w) = w := by
  apply BitVec.eq_of_toNat_eq
  have h := w.isLt
  rw [commandWord_toNat]
  simp only [opField, selField, qField, abField, BitVec.extractLsb'_toNat, Nat.shiftRight_eq_div_pow]
  omega

/-- The lane that DECODE's `SEL` selects, as a word. -/
theorem encode_decodeLane (sel : BitVec 3) (q : BitVec 5) (ab : BitVec 4) (i : Instr)
    (h : decodeLane sel q ab = .ok i) : encode i = commandWord 0x7#4 sel q ab := by
  have hs := sel.isLt
  unfold decodeLane at h
  split at h <;> cases h <;> rename_i hsel <;> simp only [encode] <;> congr 1 <;>
    exact BitVec.eq_of_toNat_eq (by simp [hsel])

/-- No bit of a word is lost in decoding: the word is its command's encoding. -/
theorem encode_of_decodeWord (w : Word) (i : Instr) (h : decodeWord w = .ok i) : encode i = w := by
  rw [← commandWord_fields w]
  unfold decodeWord at h
  split at h
  case h_7 hop =>
    rw [encode_decodeLane _ _ _ _ h]
    congr 1
    exact BitVec.eq_of_toNat_eq (by simp [hop])
  all_goals
    cases h
    try (rename_i hop; simp only [encode]; congr 1; exact BitVec.eq_of_toNat_eq (by simp [hop]))

end Sys2Proof
end

