-- ==== Sys2Proof/Laws/Interleave.lean ====
section
/-! SUPPORT. The bits and bounds of the interleave network (spec/40_bitinterleave.md R80, R81). -/

namespace Sys2Proof.Machine

theorem gather_lt (n : Nat) (f : Nat → Bool) : gather n f < 2 ^ n := by
  induction n with
  | zero => simp [gather]
  | succ n ih =>
    have : (f n).toNat ≤ 1 := Bool.toNat_le _
    have : (f n).toNat * 2 ^ n ≤ 1 * 2 ^ n := Nat.mul_le_mul_right _ this
    rw [gather, pow_succ]
    omega

theorem gather_testBit (n : Nat) (f : Nat → Bool) (i : Nat) : (gather n f).testBit i = (decide (i < n) && f i) := by
  induction n with
  | zero => simp [gather]
  | succ n ih =>
    have hlt := gather_lt n f
    rw [gather, Nat.add_comm, Nat.mul_comm]
    rw [Nat.testBit_two_pow_mul_add _ hlt]
    by_cases h : i < n
    · simp [h, ih, Nat.lt_succ_of_lt h]
    · rw [if_neg h]
      obtain rfl | hgt : i = n ∨ n < i := by omega
      · cases f i <;> simp
      · have h1 : ¬ i < n + 1 := by omega
        have h2 : (f n).toNat.testBit (i - n) = false := by
          apply Nat.testBit_lt_two_pow
          exact lt_of_le_of_lt (Bool.toNat_le _) (Nat.one_lt_two_pow (by omega))
        simp [h1, h2]

theorem ilDec_lt (a : Axes) (n : Nat) : ilDec a n < 2 ^ (3 * n) := by
  induction n with
  | zero => simp [ilDec]
  | succ n ih =>
    have hx : (a.x.testBit n).toNat ≤ 1 := Bool.toNat_le _
    have hy : (a.y.testBit n).toNat ≤ 1 := Bool.toNat_le _
    have hz : (a.z.testBit n).toNat ≤ 1 := Bool.toNat_le _
    have e0 : 2 ^ (3 * (n + 1)) = 8 * 2 ^ (3 * n) := by rw [Nat.mul_add, pow_add]; omega
    have e1 : 2 ^ (3 * n + 1) = 2 * 2 ^ (3 * n) := by rw [pow_succ]; omega
    have e2 : 2 ^ (3 * n + 2) = 4 * 2 ^ (3 * n) := by rw [pow_add]; omega
    rw [ilDec, e0, e1, e2]
    nlinarith [Nat.two_pow_pos (3 * n)]

/-- One more group of the de-interleave, its three bits above the earlier groups. -/
theorem ilDec_succ (a : Axes) (n : Nat) :
    ilDec a (n + 1) = 2 ^ (3 * n) *
      ((a.x.testBit n).toNat * 4 + (a.y.testBit n).toNat * 2 + (a.z.testBit n).toNat) + ilDec a n := by
  rw [ilDec, pow_add, pow_add]
  ring

theorem groupBit (x y z : Bool) (i : Nat) :
    (x.toNat * 4 + y.toNat * 2 + z.toNat).testBit i =
      ((decide (i = 0) && z) || (decide (i = 1) && y) || (decide (i = 2) && x)) := by
  have hlt : x.toNat * 4 + y.toNat * 2 + z.toNat < 2 ^ 3 := by
    cases x <;> cases y <;> cases z <;> decide
  by_cases h : i < 3
  · interval_cases i <;> cases x <;> cases y <;> cases z <;> rfl
  · rw [Nat.testBit_lt_two_pow (hlt.trans_le (Nat.pow_le_pow_right (by omega) (by omega)))]
    have h0 : i ≠ 0 := by omega
    have h1 : i ≠ 1 := by omega
    have h2 : i ≠ 2 := by omega
    simp [h0, h1, h2]

/-- Every bit of the de-interleave: group `i / 3`, and within it the third, second and first axis. -/
theorem ilDec_testBit (a : Axes) (n i : Nat) :
    (ilDec a n).testBit i = (decide (i < 3 * n) &&
      ((decide (i % 3 = 0) && a.z.testBit (i / 3)) || (decide (i % 3 = 1) && a.y.testBit (i / 3)) ||
        (decide (i % 3 = 2) && a.x.testBit (i / 3)))) := by
  induction n with
  | zero => simp [ilDec]
  | succ n ih =>
    rw [ilDec_succ, Nat.testBit_two_pow_mul_add _ (ilDec_lt a n)]
    by_cases h : i < 3 * n
    · have h' : i < 3 * (n + 1) := by omega
      simp [h, h', ih]
    · rw [if_neg h, groupBit]
      by_cases h' : i < 3 * (n + 1)
      · have hd : i / 3 = n := by omega
        have e0 : (i - 3 * n = 0) = (i % 3 = 0) := propext (by omega)
        have e1 : (i - 3 * n = 1) = (i % 3 = 1) := propext (by omega)
        have e2 : (i - 3 * n = 2) = (i % 3 = 2) := propext (by omega)
        simp only [hd, h', decide_true, Bool.true_and, e0, e1, e2]
      · have h0 : i - 3 * n ≠ 0 := by omega
        have h1 : i - 3 * n ≠ 1 := by omega
        have h2 : i - 3 * n ≠ 2 := by omega
        simp [h', h0, h1, h2]

end Sys2Proof.Machine
end

