-- ==== Sys2Proof/Laws/Memory.lean ====
section
/-! SUPPORT. What the table memory's operations do: read after write, and that they keep the canonical form. -/

namespace Sys2Proof.Machine

/-! ### Read after write -/

@[simp] theorem Memory.stored_nil (addr : Nat) : Memory.stored [] addr = none := rfl

theorem Memory.stored_cons (addr' : Nat) (b : Byte) (rest : Memory) (addr : Nat) :
    Memory.stored ((addr', b) :: rest) addr = if addr = addr' then some b else rest.stored addr := rfl

theorem Memory.stored_write_same (m : Memory) (addr : Nat) (b : Byte) : (m.write addr b).stored addr = some b := by
  induction m with
  | nil => simp [Memory.write, Memory.stored]
  | cons c rest ih =>
    obtain ⟨addr', b'⟩ := c
    unfold Memory.write
    split_ifs with h1 h2
    · simp [Memory.stored]
    · simp [Memory.stored]
    · simp [Memory.stored, h2, ih]

theorem Memory.stored_write_other (m : Memory) (addr other : Nat) (b : Byte) (h : other ≠ addr) :
    (m.write addr b).stored other = m.stored other := by
  induction m with
  | nil => simp [Memory.write, Memory.stored, h]
  | cons c rest ih =>
    obtain ⟨addr', b'⟩ := c
    unfold Memory.write
    split_ifs with h1 h2
    · simp [Memory.stored, h]
    · subst h2; simp [Memory.stored, h]
    · simp [Memory.stored, ih]

/-- The whole of what a write does to the bytes. -/
@[simp] theorem Memory.stored_write (m : Memory) (addr other : Nat) (b : Byte) :
    (m.write addr b).stored other = if other = addr then some b else m.stored other := by
  split_ifs with h
  · rw [h, Memory.stored_write_same]
  · exact Memory.stored_write_other m addr other b h

/-- The whole of what writing a cell does to the bytes (R45, R134). -/
theorem Memory.stored_writeCell (m : Memory) (base other : Nat) (depth : Depth) :
    (m.writeCell base depth).stored other =
      if other = base + 2 then some 0#8
      else if other = base + 1 then some (depth.extractLsb' 0 8)
      else if other = base then some (depth.extractLsb' 8 8)
      else m.stored other := by
  simp [Memory.writeCell]

theorem Memory.read_stored (m : Memory) (addr : Nat) (b : Byte) (h : m.stored addr = some b) : m.read addr = b := by
  simp [Memory.read, h]

theorem Memory.read_congr (m m' : Memory) (addr : Nat) (h : m.stored addr = m'.stored addr) :
    m.read addr = m'.read addr := by
  simp [Memory.read, h]

/-! ### The canonical form is kept -/

theorem Memory.risesFrom_mono (m : Memory) (lo lo' : Nat) (h : lo' ≤ lo) (hm : m.risesFrom lo = true) :
    m.risesFrom lo' = true := by
  cases m with
  | nil => rfl
  | cons c rest =>
    obtain ⟨addr, b⟩ := c
    simp only [Memory.risesFrom, Bool.and_eq_true, decide_eq_true_eq] at hm ⊢
    exact ⟨⟨h.trans hm.1.1, hm.1.2⟩, hm.2⟩

theorem Memory.risesFrom_write (m : Memory) (lo addr : Nat) (b : Byte) (hlo : lo ≤ addr)
    (haddr : addr < Config.tblBytes) (hm : m.risesFrom lo = true) : (m.write addr b).risesFrom lo = true := by
  induction m generalizing lo with
  | nil => simp [Memory.write, Memory.risesFrom, hlo, haddr]
  | cons c rest ih =>
    obtain ⟨addr', b'⟩ := c
    simp only [Memory.risesFrom, Bool.and_eq_true, decide_eq_true_eq] at hm
    unfold Memory.write
    split_ifs with h1 h2
    · simp only [Memory.risesFrom, Bool.and_eq_true, decide_eq_true_eq]
      exact ⟨⟨hlo, haddr⟩, ⟨by omega, hm.1.2⟩, hm.2⟩
    · subst h2
      simp only [Memory.risesFrom, Bool.and_eq_true, decide_eq_true_eq]
      exact ⟨⟨hlo, haddr⟩, hm.2⟩
    · simp only [Memory.risesFrom, Bool.and_eq_true, decide_eq_true_eq]
      exact ⟨hm.1, ih (addr' + 1) (by omega) hm.2⟩

/-- A write inside the table keeps the canonical form (R41). -/
theorem Memory.write_wf (m : Memory) (addr : Nat) (b : Byte) (haddr : addr < Config.tblBytes) (hm : m.wf = true) :
    (m.write addr b).wf = true :=
  Memory.risesFrom_write m 0 addr b (Nat.zero_le _) haddr hm

/-- Writing a cell inside the table keeps the canonical form. -/
theorem Memory.writeCell_wf (m : Memory) (base : Nat) (depth : Depth) (hbase : base + 2 < Config.tblBytes)
    (hm : m.wf = true) : (m.writeCell base depth).wf = true := by
  unfold Memory.writeCell
  exact Memory.write_wf _ _ _ hbase (Memory.write_wf _ _ _ (by omega) (Memory.write_wf _ _ _ (by omega) hm))

theorem Memory.reset_wf : State.reset.tbl.wf = true := rfl

/-! ### The canonical form makes equal memories equal data -/

theorem Memory.stored_below (m : Memory) (lo addr : Nat) (hm : m.risesFrom lo = true) (h : addr < lo) :
    m.stored addr = none := by
  induction m generalizing lo with
  | nil => rfl
  | cons c rest ih =>
    obtain ⟨addr', b⟩ := c
    simp only [Memory.risesFrom, Bool.and_eq_true, decide_eq_true_eq] at hm
    rw [Memory.stored_cons, if_neg (by omega)]
    exact ih (addr' + 1) hm.2 (by omega)

theorem Memory.risesFrom_ext (m m' : Memory) (lo : Nat) (hm : m.risesFrom lo = true) (hm' : m'.risesFrom lo = true)
    (h : ∀ addr, m.stored addr = m'.stored addr) : m = m' := by
  induction m generalizing lo m' with
  | nil =>
    cases m' with
    | nil => rfl
    | cons c rest => obtain ⟨addr, b⟩ := c; have := h addr; simp [Memory.stored] at this
  | cons c rest ih =>
    obtain ⟨addr, b⟩ := c
    cases m' with
    | nil => have := h addr; simp [Memory.stored] at this
    | cons c' rest' =>
      obtain ⟨addr', b'⟩ := c'
      simp only [Memory.risesFrom, Bool.and_eq_true, decide_eq_true_eq] at hm hm'
      have hle : addr' ≤ addr := by
        by_contra hlt
        have := h addr
        rw [Memory.stored_cons, if_pos rfl, Memory.stored_cons, if_neg (by omega),
          Memory.stored_below rest' (addr' + 1) addr hm'.2 (by omega)] at this
        cases this
      have hge : addr ≤ addr' := by
        by_contra hlt
        have := h addr'
        rw [Memory.stored_cons, if_neg (by omega), Memory.stored_cons, if_pos rfl,
          Memory.stored_below rest (addr + 1) addr' hm.2 (by omega)] at this
        cases this
      obtain rfl : addr = addr' := le_antisymm hge hle
      have hb : b = b' := by have := h addr; simpa [Memory.stored] using this
      subst hb
      congr 1
      refine ih rest' (addr + 1) hm.2 hm'.2 fun x => ?_
      by_cases hx : x = addr
      · subst hx
        rw [Memory.stored_below rest (x + 1) x hm.2 (by omega), Memory.stored_below rest' (x + 1) x hm'.2 (by omega)]
      · have := h x
        rwa [Memory.stored_cons, if_neg hx, Memory.stored_cons, if_neg hx] at this

/-- Two canonical memories that store the same bytes are the same data. -/
theorem Memory.wf_ext (m m' : Memory) (hm : m.wf = true) (hm' : m'.wf = true)
    (h : ∀ addr, m.stored addr = m'.stored addr) : m = m' :=
  Memory.risesFrom_ext m m' 0 hm hm' h

end Sys2Proof.Machine
end

