-- ==== Sys2Proof/Laws/State.lean ====
section
/-! SUPPORT. One lemma for each field under each named update of the state: what the update writes there, or that it
leaves the field as it was. -/

namespace Sys2Proof.Machine

section

variable (s : State)

/-! ### `State.raiseOvr` -/

@[simp] theorem State.raiseOvr_operand : s.raiseOvr.operand = s.operand := rfl
@[simp] theorem State.raiseOvr_result : s.raiseOvr.result = s.result := rfl
@[simp] theorem State.raiseOvr_run : s.raiseOvr.run = s.run := rfl
@[simp] theorem State.raiseOvr_err : s.raiseOvr.err = s.err := rfl
@[simp] theorem State.raiseOvr_ovr : s.raiseOvr.ovr = true := rfl
@[simp] theorem State.raiseOvr_i : s.raiseOvr.i = s.i := rfl
@[simp] theorem State.raiseOvr_j : s.raiseOvr.j = s.j := rfl
@[simp] theorem State.raiseOvr_k : s.raiseOvr.k = s.k := rfl
@[simp] theorem State.raiseOvr_tag : s.raiseOvr.tag = s.tag := rfl
@[simp] theorem State.raiseOvr_abortReq : s.raiseOvr.abortReq = s.abortReq := rfl
@[simp] theorem State.raiseOvr_actOp : s.raiseOvr.actOp = s.actOp := rfl
@[simp] theorem State.raiseOvr_actSel : s.raiseOvr.actSel = s.actSel := rfl
@[simp] theorem State.raiseOvr_actQ : s.raiseOvr.actQ = s.actQ := rfl
@[simp] theorem State.raiseOvr_actAb : s.raiseOvr.actAb = s.actAb := rfl
@[simp] theorem State.raiseOvr_actOpnd : s.raiseOvr.actOpnd = s.actOpnd := rfl
@[simp] theorem State.raiseOvr_tbl : s.raiseOvr.tbl = s.tbl := rfl
@[simp] theorem State.raiseOvr_agenda : s.raiseOvr.agenda = s.agenda := rfl
@[simp] theorem State.raiseOvr_reply : s.raiseOvr.reply = s.reply := rfl
@[simp] theorem State.raiseOvr_freeCount : s.raiseOvr.freeCount = s.freeCount := rfl

/-! ### `State.clearOvr` -/

@[simp] theorem State.clearOvr_operand : s.clearOvr.operand = s.operand := rfl
@[simp] theorem State.clearOvr_result : s.clearOvr.result = s.result := rfl
@[simp] theorem State.clearOvr_run : s.clearOvr.run = s.run := rfl
@[simp] theorem State.clearOvr_err : s.clearOvr.err = s.err := rfl
@[simp] theorem State.clearOvr_ovr : s.clearOvr.ovr = false := rfl
@[simp] theorem State.clearOvr_i : s.clearOvr.i = s.i := rfl
@[simp] theorem State.clearOvr_j : s.clearOvr.j = s.j := rfl
@[simp] theorem State.clearOvr_k : s.clearOvr.k = s.k := rfl
@[simp] theorem State.clearOvr_tag : s.clearOvr.tag = s.tag := rfl
@[simp] theorem State.clearOvr_abortReq : s.clearOvr.abortReq = s.abortReq := rfl
@[simp] theorem State.clearOvr_actOp : s.clearOvr.actOp = s.actOp := rfl
@[simp] theorem State.clearOvr_actSel : s.clearOvr.actSel = s.actSel := rfl
@[simp] theorem State.clearOvr_actQ : s.clearOvr.actQ = s.actQ := rfl
@[simp] theorem State.clearOvr_actAb : s.clearOvr.actAb = s.actAb := rfl
@[simp] theorem State.clearOvr_actOpnd : s.clearOvr.actOpnd = s.actOpnd := rfl
@[simp] theorem State.clearOvr_tbl : s.clearOvr.tbl = s.tbl := rfl
@[simp] theorem State.clearOvr_agenda : s.clearOvr.agenda = s.agenda := rfl
@[simp] theorem State.clearOvr_reply : s.clearOvr.reply = s.reply := rfl
@[simp] theorem State.clearOvr_freeCount : s.clearOvr.freeCount = s.freeCount := rfl

/-! ### `State.requestAbort` -/

@[simp] theorem State.requestAbort_operand : s.requestAbort.operand = s.operand := rfl
@[simp] theorem State.requestAbort_result : s.requestAbort.result = s.result := rfl
@[simp] theorem State.requestAbort_run : s.requestAbort.run = s.run := rfl
@[simp] theorem State.requestAbort_err : s.requestAbort.err = s.err := rfl
@[simp] theorem State.requestAbort_ovr : s.requestAbort.ovr = s.ovr := rfl
@[simp] theorem State.requestAbort_i : s.requestAbort.i = s.i := rfl
@[simp] theorem State.requestAbort_j : s.requestAbort.j = s.j := rfl
@[simp] theorem State.requestAbort_k : s.requestAbort.k = s.k := rfl
@[simp] theorem State.requestAbort_tag : s.requestAbort.tag = s.tag := rfl
@[simp] theorem State.requestAbort_abortReq : s.requestAbort.abortReq = true := rfl
@[simp] theorem State.requestAbort_actOp : s.requestAbort.actOp = s.actOp := rfl
@[simp] theorem State.requestAbort_actSel : s.requestAbort.actSel = s.actSel := rfl
@[simp] theorem State.requestAbort_actQ : s.requestAbort.actQ = s.actQ := rfl
@[simp] theorem State.requestAbort_actAb : s.requestAbort.actAb = s.actAb := rfl
@[simp] theorem State.requestAbort_actOpnd : s.requestAbort.actOpnd = s.actOpnd := rfl
@[simp] theorem State.requestAbort_tbl : s.requestAbort.tbl = s.tbl := rfl
@[simp] theorem State.requestAbort_agenda : s.requestAbort.agenda = s.agenda := rfl
@[simp] theorem State.requestAbort_reply : s.requestAbort.reply = s.reply := rfl
@[simp] theorem State.requestAbort_freeCount : s.requestAbort.freeCount = s.freeCount := rfl

/-! ### `State.invalidateTag` -/

@[simp] theorem State.invalidateTag_operand : s.invalidateTag.operand = s.operand := rfl
@[simp] theorem State.invalidateTag_result : s.invalidateTag.result = s.result := rfl
@[simp] theorem State.invalidateTag_run : s.invalidateTag.run = s.run := rfl
@[simp] theorem State.invalidateTag_err : s.invalidateTag.err = s.err := rfl
@[simp] theorem State.invalidateTag_ovr : s.invalidateTag.ovr = s.ovr := rfl
@[simp] theorem State.invalidateTag_i : s.invalidateTag.i = s.i := rfl
@[simp] theorem State.invalidateTag_j : s.invalidateTag.j = s.j := rfl
@[simp] theorem State.invalidateTag_k : s.invalidateTag.k = s.k := rfl
@[simp] theorem State.invalidateTag_tag : s.invalidateTag.tag = { s.tag with valid := false } := rfl
@[simp] theorem State.invalidateTag_abortReq : s.invalidateTag.abortReq = s.abortReq := rfl
@[simp] theorem State.invalidateTag_actOp : s.invalidateTag.actOp = s.actOp := rfl
@[simp] theorem State.invalidateTag_actSel : s.invalidateTag.actSel = s.actSel := rfl
@[simp] theorem State.invalidateTag_actQ : s.invalidateTag.actQ = s.actQ := rfl
@[simp] theorem State.invalidateTag_actAb : s.invalidateTag.actAb = s.actAb := rfl
@[simp] theorem State.invalidateTag_actOpnd : s.invalidateTag.actOpnd = s.actOpnd := rfl
@[simp] theorem State.invalidateTag_tbl : s.invalidateTag.tbl = s.tbl := rfl
@[simp] theorem State.invalidateTag_agenda : s.invalidateTag.agenda = s.agenda := rfl
@[simp] theorem State.invalidateTag_reply : s.invalidateTag.reply = s.reply := rfl
@[simp] theorem State.invalidateTag_freeCount : s.invalidateTag.freeCount = s.freeCount := rfl

/-! ### `State.writeTag` -/

@[simp] theorem State.writeTag_operand : s.writeTag.operand = s.operand := rfl
@[simp] theorem State.writeTag_result : s.writeTag.result = s.result := rfl
@[simp] theorem State.writeTag_run : s.writeTag.run = s.run := rfl
@[simp] theorem State.writeTag_err : s.writeTag.err = s.err := rfl
@[simp] theorem State.writeTag_ovr : s.writeTag.ovr = s.ovr := rfl
@[simp] theorem State.writeTag_i : s.writeTag.i = s.i := rfl
@[simp] theorem State.writeTag_j : s.writeTag.j = s.j := rfl
@[simp] theorem State.writeTag_k : s.writeTag.k = s.k := rfl
@[simp] theorem State.writeTag_tag :
    s.writeTag.tag = { valid := true, algo := s.actSel, q := s.actQ, ab := s.actAb } := rfl
@[simp] theorem State.writeTag_abortReq : s.writeTag.abortReq = s.abortReq := rfl
@[simp] theorem State.writeTag_actOp : s.writeTag.actOp = s.actOp := rfl
@[simp] theorem State.writeTag_actSel : s.writeTag.actSel = s.actSel := rfl
@[simp] theorem State.writeTag_actQ : s.writeTag.actQ = s.actQ := rfl
@[simp] theorem State.writeTag_actAb : s.writeTag.actAb = s.actAb := rfl
@[simp] theorem State.writeTag_actOpnd : s.writeTag.actOpnd = s.actOpnd := rfl
@[simp] theorem State.writeTag_tbl : s.writeTag.tbl = s.tbl := rfl
@[simp] theorem State.writeTag_agenda : s.writeTag.agenda = s.agenda := rfl
@[simp] theorem State.writeTag_reply : s.writeTag.reply = s.reply := rfl
@[simp] theorem State.writeTag_freeCount : s.writeTag.freeCount = s.freeCount := rfl

/-! ### `State.consume` -/

@[simp] theorem State.consume_operand : s.consume.operand = s.operand := rfl
@[simp] theorem State.consume_result : s.consume.result = s.result := rfl
@[simp] theorem State.consume_run : s.consume.run = s.run := rfl
@[simp] theorem State.consume_err : s.consume.err = s.err := rfl
@[simp] theorem State.consume_ovr : s.consume.ovr = s.ovr := rfl
@[simp] theorem State.consume_i : s.consume.i = s.i := rfl
@[simp] theorem State.consume_j : s.consume.j = s.j := rfl
@[simp] theorem State.consume_k : s.consume.k = s.k := rfl
@[simp] theorem State.consume_tag : s.consume.tag = s.tag := rfl
@[simp] theorem State.consume_abortReq : s.consume.abortReq = s.abortReq := rfl
@[simp] theorem State.consume_actOp : s.consume.actOp = s.actOp := rfl
@[simp] theorem State.consume_actSel : s.consume.actSel = s.actSel := rfl
@[simp] theorem State.consume_actQ : s.consume.actQ = s.actQ := rfl
@[simp] theorem State.consume_actAb : s.consume.actAb = s.actAb := rfl
@[simp] theorem State.consume_actOpnd : s.consume.actOpnd = s.actOpnd := rfl
@[simp] theorem State.consume_tbl : s.consume.tbl = s.tbl := rfl
@[simp] theorem State.consume_agenda : s.consume.agenda = s.agenda.tail := rfl
@[simp] theorem State.consume_reply : s.consume.reply = s.reply := rfl
@[simp] theorem State.consume_freeCount : s.consume.freeCount = s.freeCount := rfl

/-! ### `State.answer` -/

@[simp] theorem State.answer_operand (v : Word24) : (s.answer v).operand = s.operand := rfl
@[simp] theorem State.answer_result (v : Word24) : (s.answer v).result = s.result := rfl
@[simp] theorem State.answer_run (v : Word24) : (s.answer v).run = s.run := rfl
@[simp] theorem State.answer_err (v : Word24) : (s.answer v).err = s.err := rfl
@[simp] theorem State.answer_ovr (v : Word24) : (s.answer v).ovr = s.ovr := rfl
@[simp] theorem State.answer_i (v : Word24) : (s.answer v).i = s.i := rfl
@[simp] theorem State.answer_j (v : Word24) : (s.answer v).j = s.j := rfl
@[simp] theorem State.answer_k (v : Word24) : (s.answer v).k = s.k := rfl
@[simp] theorem State.answer_tag (v : Word24) : (s.answer v).tag = s.tag := rfl
@[simp] theorem State.answer_abortReq (v : Word24) : (s.answer v).abortReq = s.abortReq := rfl
@[simp] theorem State.answer_actOp (v : Word24) : (s.answer v).actOp = s.actOp := rfl
@[simp] theorem State.answer_actSel (v : Word24) : (s.answer v).actSel = s.actSel := rfl
@[simp] theorem State.answer_actQ (v : Word24) : (s.answer v).actQ = s.actQ := rfl
@[simp] theorem State.answer_actAb (v : Word24) : (s.answer v).actAb = s.actAb := rfl
@[simp] theorem State.answer_actOpnd (v : Word24) : (s.answer v).actOpnd = s.actOpnd := rfl
@[simp] theorem State.answer_tbl (v : Word24) : (s.answer v).tbl = s.tbl := rfl
@[simp] theorem State.answer_agenda (v : Word24) : (s.answer v).agenda = s.agenda := rfl
@[simp] theorem State.answer_reply (v : Word24) : (s.answer v).reply = some v := rfl
@[simp] theorem State.answer_freeCount (v : Word24) : (s.answer v).freeCount = s.freeCount := rfl

/-! ### `State.errorEntry` -/

@[simp] theorem State.errorEntry_operand (e : ErrCode) : (s.errorEntry e).operand = s.operand := rfl
@[simp] theorem State.errorEntry_result (e : ErrCode) : (s.errorEntry e).result = 0 := rfl
@[simp] theorem State.errorEntry_run (e : ErrCode) : (s.errorEntry e).run = .error := rfl
@[simp] theorem State.errorEntry_err (e : ErrCode) : (s.errorEntry e).err = e := rfl
@[simp] theorem State.errorEntry_ovr (e : ErrCode) : (s.errorEntry e).ovr = s.ovr := rfl
@[simp] theorem State.errorEntry_i (e : ErrCode) : (s.errorEntry e).i = s.i := rfl
@[simp] theorem State.errorEntry_j (e : ErrCode) : (s.errorEntry e).j = s.j := rfl
@[simp] theorem State.errorEntry_k (e : ErrCode) : (s.errorEntry e).k = s.k := rfl
@[simp] theorem State.errorEntry_tag (e : ErrCode) : (s.errorEntry e).tag = s.tag := rfl
@[simp] theorem State.errorEntry_abortReq (e : ErrCode) : (s.errorEntry e).abortReq = s.abortReq := rfl
@[simp] theorem State.errorEntry_actOp (e : ErrCode) : (s.errorEntry e).actOp = s.actOp := rfl
@[simp] theorem State.errorEntry_actSel (e : ErrCode) : (s.errorEntry e).actSel = s.actSel := rfl
@[simp] theorem State.errorEntry_actQ (e : ErrCode) : (s.errorEntry e).actQ = s.actQ := rfl
@[simp] theorem State.errorEntry_actAb (e : ErrCode) : (s.errorEntry e).actAb = s.actAb := rfl
@[simp] theorem State.errorEntry_actOpnd (e : ErrCode) : (s.errorEntry e).actOpnd = s.actOpnd := rfl
@[simp] theorem State.errorEntry_tbl (e : ErrCode) : (s.errorEntry e).tbl = s.tbl := rfl
@[simp] theorem State.errorEntry_agenda (e : ErrCode) : (s.errorEntry e).agenda = s.agenda := rfl
@[simp] theorem State.errorEntry_reply (e : ErrCode) : (s.errorEntry e).reply = s.reply := rfl
@[simp] theorem State.errorEntry_freeCount (e : ErrCode) : (s.errorEntry e).freeCount = s.freeCount := rfl

/-! ### `State.leaveError` -/

@[simp] theorem State.leaveError_operand : s.leaveError.operand = s.operand := rfl
@[simp] theorem State.leaveError_result : s.leaveError.result = s.result := rfl
@[simp] theorem State.leaveError_run : s.leaveError.run = .busy := rfl
@[simp] theorem State.leaveError_err : s.leaveError.err = .none := rfl
@[simp] theorem State.leaveError_ovr : s.leaveError.ovr = s.ovr := rfl
@[simp] theorem State.leaveError_i : s.leaveError.i = s.i := rfl
@[simp] theorem State.leaveError_j : s.leaveError.j = s.j := rfl
@[simp] theorem State.leaveError_k : s.leaveError.k = s.k := rfl
@[simp] theorem State.leaveError_tag : s.leaveError.tag = s.tag := rfl
@[simp] theorem State.leaveError_abortReq : s.leaveError.abortReq = s.abortReq := rfl
@[simp] theorem State.leaveError_actOp : s.leaveError.actOp = s.actOp := rfl
@[simp] theorem State.leaveError_actSel : s.leaveError.actSel = s.actSel := rfl
@[simp] theorem State.leaveError_actQ : s.leaveError.actQ = s.actQ := rfl
@[simp] theorem State.leaveError_actAb : s.leaveError.actAb = s.actAb := rfl
@[simp] theorem State.leaveError_actOpnd : s.leaveError.actOpnd = s.actOpnd := rfl
@[simp] theorem State.leaveError_tbl : s.leaveError.tbl = s.tbl := rfl
@[simp] theorem State.leaveError_agenda : s.leaveError.agenda = s.agenda := rfl
@[simp] theorem State.leaveError_reply : s.leaveError.reply = s.reply := rfl
@[simp] theorem State.leaveError_freeCount : s.leaveError.freeCount = s.freeCount := rfl

/-! ### `State.latch` -/

@[simp] theorem State.latch_operand (op : BitVec 4) (sel : BitVec 3) (q : BitVec 5) (ab : BitVec 4) :
    (s.latch op sel q ab).operand = s.operand := rfl
@[simp] theorem State.latch_result (op : BitVec 4) (sel : BitVec 3) (q : BitVec 5) (ab : BitVec 4) :
    (s.latch op sel q ab).result = s.result := rfl
@[simp] theorem State.latch_run (op : BitVec 4) (sel : BitVec 3) (q : BitVec 5) (ab : BitVec 4) :
    (s.latch op sel q ab).run = s.run := rfl
@[simp] theorem State.latch_err (op : BitVec 4) (sel : BitVec 3) (q : BitVec 5) (ab : BitVec 4) :
    (s.latch op sel q ab).err = s.err := rfl
@[simp] theorem State.latch_ovr (op : BitVec 4) (sel : BitVec 3) (q : BitVec 5) (ab : BitVec 4) :
    (s.latch op sel q ab).ovr = s.ovr := rfl
@[simp] theorem State.latch_i (op : BitVec 4) (sel : BitVec 3) (q : BitVec 5) (ab : BitVec 4) :
    (s.latch op sel q ab).i = s.i := rfl
@[simp] theorem State.latch_j (op : BitVec 4) (sel : BitVec 3) (q : BitVec 5) (ab : BitVec 4) :
    (s.latch op sel q ab).j = s.j := rfl
@[simp] theorem State.latch_k (op : BitVec 4) (sel : BitVec 3) (q : BitVec 5) (ab : BitVec 4) :
    (s.latch op sel q ab).k = s.k := rfl
@[simp] theorem State.latch_tag (op : BitVec 4) (sel : BitVec 3) (q : BitVec 5) (ab : BitVec 4) :
    (s.latch op sel q ab).tag = s.tag := rfl
@[simp] theorem State.latch_abortReq (op : BitVec 4) (sel : BitVec 3) (q : BitVec 5) (ab : BitVec 4) :
    (s.latch op sel q ab).abortReq = false := rfl
@[simp] theorem State.latch_actOp (op : BitVec 4) (sel : BitVec 3) (q : BitVec 5) (ab : BitVec 4) :
    (s.latch op sel q ab).actOp = op := rfl
@[simp] theorem State.latch_actSel (op : BitVec 4) (sel : BitVec 3) (q : BitVec 5) (ab : BitVec 4) :
    (s.latch op sel q ab).actSel = sel := rfl
@[simp] theorem State.latch_actQ (op : BitVec 4) (sel : BitVec 3) (q : BitVec 5) (ab : BitVec 4) :
    (s.latch op sel q ab).actQ = q := rfl
@[simp] theorem State.latch_actAb (op : BitVec 4) (sel : BitVec 3) (q : BitVec 5) (ab : BitVec 4) :
    (s.latch op sel q ab).actAb = ab := rfl
@[simp] theorem State.latch_actOpnd (op : BitVec 4) (sel : BitVec 3) (q : BitVec 5) (ab : BitVec 4) :
    (s.latch op sel q ab).actOpnd = s.operand := rfl
@[simp] theorem State.latch_tbl (op : BitVec 4) (sel : BitVec 3) (q : BitVec 5) (ab : BitVec 4) :
    (s.latch op sel q ab).tbl = s.tbl := rfl
@[simp] theorem State.latch_agenda (op : BitVec 4) (sel : BitVec 3) (q : BitVec 5) (ab : BitVec 4) :
    (s.latch op sel q ab).agenda = s.agenda := rfl
@[simp] theorem State.latch_reply (op : BitVec 4) (sel : BitVec 3) (q : BitVec 5) (ab : BitVec 4) :
    (s.latch op sel q ab).reply = s.reply := rfl
@[simp] theorem State.latch_freeCount (op : BitVec 4) (sel : BitVec 3) (q : BitVec 5) (ab : BitVec 4) :
    (s.latch op sel q ab).freeCount = s.freeCount := rfl

/-! ### `State.startSweep` -/

@[simp] theorem State.startSweep_operand : s.startSweep.operand = s.operand := rfl
@[simp] theorem State.startSweep_result : s.startSweep.result = s.result := rfl
@[simp] theorem State.startSweep_run : s.startSweep.run = s.run := rfl
@[simp] theorem State.startSweep_err : s.startSweep.err = s.err := rfl
@[simp] theorem State.startSweep_ovr : s.startSweep.ovr = s.ovr := rfl
@[simp] theorem State.startSweep_i : s.startSweep.i = 0 := rfl
@[simp] theorem State.startSweep_j : s.startSweep.j = 0 := rfl
@[simp] theorem State.startSweep_k : s.startSweep.k = 0 := rfl
@[simp] theorem State.startSweep_tag : s.startSweep.tag = { s.tag with valid := false } := rfl
@[simp] theorem State.startSweep_abortReq : s.startSweep.abortReq = s.abortReq := rfl
@[simp] theorem State.startSweep_actOp : s.startSweep.actOp = s.actOp := rfl
@[simp] theorem State.startSweep_actSel : s.startSweep.actSel = s.actSel := rfl
@[simp] theorem State.startSweep_actQ : s.startSweep.actQ = s.actQ := rfl
@[simp] theorem State.startSweep_actAb : s.startSweep.actAb = s.actAb := rfl
@[simp] theorem State.startSweep_actOpnd : s.startSweep.actOpnd = s.actOpnd := rfl
@[simp] theorem State.startSweep_tbl : s.startSweep.tbl = s.tbl := rfl
@[simp] theorem State.startSweep_agenda : s.startSweep.agenda = s.agenda := rfl
@[simp] theorem State.startSweep_reply : s.startSweep.reply = s.reply := rfl
@[simp] theorem State.startSweep_freeCount : s.startSweep.freeCount = s.freeCount := rfl

/-! ### `State.complete` -/

@[simp] theorem State.complete_operand (r : Word24) : (s.complete r).operand = s.operand := rfl
@[simp] theorem State.complete_result (r : Word24) : (s.complete r).result = r := rfl
@[simp] theorem State.complete_run (r : Word24) : (s.complete r).run = .done := rfl
@[simp] theorem State.complete_err (r : Word24) : (s.complete r).err = s.err := rfl
@[simp] theorem State.complete_ovr (r : Word24) : (s.complete r).ovr = s.ovr := rfl
@[simp] theorem State.complete_i (r : Word24) : (s.complete r).i = s.i := rfl
@[simp] theorem State.complete_j (r : Word24) : (s.complete r).j = s.j := rfl
@[simp] theorem State.complete_k (r : Word24) : (s.complete r).k = s.k := rfl
@[simp] theorem State.complete_tag (r : Word24) : (s.complete r).tag = s.tag := rfl
@[simp] theorem State.complete_abortReq (r : Word24) : (s.complete r).abortReq = false := rfl
@[simp] theorem State.complete_actOp (r : Word24) : (s.complete r).actOp = s.actOp := rfl
@[simp] theorem State.complete_actSel (r : Word24) : (s.complete r).actSel = s.actSel := rfl
@[simp] theorem State.complete_actQ (r : Word24) : (s.complete r).actQ = s.actQ := rfl
@[simp] theorem State.complete_actAb (r : Word24) : (s.complete r).actAb = s.actAb := rfl
@[simp] theorem State.complete_actOpnd (r : Word24) : (s.complete r).actOpnd = s.actOpnd := rfl
@[simp] theorem State.complete_tbl (r : Word24) : (s.complete r).tbl = s.tbl := rfl
@[simp] theorem State.complete_agenda (r : Word24) : (s.complete r).agenda = s.agenda := rfl
@[simp] theorem State.complete_reply (r : Word24) : (s.complete r).reply = s.reply := rfl
@[simp] theorem State.complete_freeCount (r : Word24) : (s.complete r).freeCount = s.freeCount := rfl

/-! ### `State.stopBuild` -/

@[simp] theorem State.stopBuild_operand : s.stopBuild.operand = s.operand := rfl
@[simp] theorem State.stopBuild_result : s.stopBuild.result = s.result := rfl
@[simp] theorem State.stopBuild_run : s.stopBuild.run = .aborted := rfl
@[simp] theorem State.stopBuild_err : s.stopBuild.err = s.err := rfl
@[simp] theorem State.stopBuild_ovr : s.stopBuild.ovr = s.ovr := rfl
@[simp] theorem State.stopBuild_i : s.stopBuild.i = s.i := rfl
@[simp] theorem State.stopBuild_j : s.stopBuild.j = s.j := rfl
@[simp] theorem State.stopBuild_k : s.stopBuild.k = s.k := rfl
@[simp] theorem State.stopBuild_tag : s.stopBuild.tag = s.tag := rfl
@[simp] theorem State.stopBuild_abortReq : s.stopBuild.abortReq = false := rfl
@[simp] theorem State.stopBuild_actOp : s.stopBuild.actOp = s.actOp := rfl
@[simp] theorem State.stopBuild_actSel : s.stopBuild.actSel = s.actSel := rfl
@[simp] theorem State.stopBuild_actQ : s.stopBuild.actQ = s.actQ := rfl
@[simp] theorem State.stopBuild_actAb : s.stopBuild.actAb = s.actAb := rfl
@[simp] theorem State.stopBuild_actOpnd : s.stopBuild.actOpnd = s.actOpnd := rfl
@[simp] theorem State.stopBuild_tbl : s.stopBuild.tbl = s.tbl := rfl
@[simp] theorem State.stopBuild_agenda : s.stopBuild.agenda = s.agenda := rfl
@[simp] theorem State.stopBuild_reply : s.stopBuild.reply = s.reply := rfl
@[simp] theorem State.stopBuild_freeCount : s.stopBuild.freeCount = s.freeCount := rfl

/-! ### `State.finishBuild` -/

@[simp] theorem State.finishBuild_operand : s.finishBuild.operand = s.operand := rfl
@[simp] theorem State.finishBuild_result : s.finishBuild.result = s.result := rfl
@[simp] theorem State.finishBuild_run : s.finishBuild.run = .done := rfl
@[simp] theorem State.finishBuild_err : s.finishBuild.err = s.err := rfl
@[simp] theorem State.finishBuild_ovr : s.finishBuild.ovr = s.ovr := rfl
@[simp] theorem State.finishBuild_i : s.finishBuild.i = s.i := rfl
@[simp] theorem State.finishBuild_j : s.finishBuild.j = s.j := rfl
@[simp] theorem State.finishBuild_k : s.finishBuild.k = s.k := rfl
@[simp] theorem State.finishBuild_tag :
    s.finishBuild.tag = { valid := true, algo := s.actSel, q := s.actQ, ab := s.actAb } := rfl
@[simp] theorem State.finishBuild_abortReq : s.finishBuild.abortReq = false := rfl
@[simp] theorem State.finishBuild_actOp : s.finishBuild.actOp = s.actOp := rfl
@[simp] theorem State.finishBuild_actSel : s.finishBuild.actSel = s.actSel := rfl
@[simp] theorem State.finishBuild_actQ : s.finishBuild.actQ = s.actQ := rfl
@[simp] theorem State.finishBuild_actAb : s.finishBuild.actAb = s.actAb := rfl
@[simp] theorem State.finishBuild_actOpnd : s.finishBuild.actOpnd = s.actOpnd := rfl
@[simp] theorem State.finishBuild_tbl : s.finishBuild.tbl = s.tbl := rfl
@[simp] theorem State.finishBuild_agenda : s.finishBuild.agenda = s.agenda := rfl
@[simp] theorem State.finishBuild_reply : s.finishBuild.reply = s.reply := rfl
@[simp] theorem State.finishBuild_freeCount : s.finishBuild.freeCount = s.freeCount := rfl

/-! ### `State.writeCell` -/

@[simp] theorem State.writeCell_operand (depth : Depth) : (s.writeCell depth).operand = s.operand := rfl
@[simp] theorem State.writeCell_result (depth : Depth) : (s.writeCell depth).result = s.result := rfl
@[simp] theorem State.writeCell_run (depth : Depth) : (s.writeCell depth).run = s.run := rfl
@[simp] theorem State.writeCell_err (depth : Depth) : (s.writeCell depth).err = s.err := rfl
@[simp] theorem State.writeCell_ovr (depth : Depth) : (s.writeCell depth).ovr = s.ovr := rfl
@[simp] theorem State.writeCell_i (depth : Depth) : (s.writeCell depth).i = s.i := rfl
@[simp] theorem State.writeCell_j (depth : Depth) : (s.writeCell depth).j = s.j := rfl
@[simp] theorem State.writeCell_k (depth : Depth) : (s.writeCell depth).k = s.k := rfl
@[simp] theorem State.writeCell_tag (depth : Depth) : (s.writeCell depth).tag = s.tag := rfl
@[simp] theorem State.writeCell_abortReq (depth : Depth) : (s.writeCell depth).abortReq = s.abortReq := rfl
@[simp] theorem State.writeCell_actOp (depth : Depth) : (s.writeCell depth).actOp = s.actOp := rfl
@[simp] theorem State.writeCell_actSel (depth : Depth) : (s.writeCell depth).actSel = s.actSel := rfl
@[simp] theorem State.writeCell_actQ (depth : Depth) : (s.writeCell depth).actQ = s.actQ := rfl
@[simp] theorem State.writeCell_actAb (depth : Depth) : (s.writeCell depth).actAb = s.actAb := rfl
@[simp] theorem State.writeCell_actOpnd (depth : Depth) : (s.writeCell depth).actOpnd = s.actOpnd := rfl
@[simp] theorem State.writeCell_tbl (depth : Depth) :
    (s.writeCell depth).tbl = s.tbl.writeCell (cellBase s.i.toNat s.j.toNat s.k.toNat) depth := rfl
@[simp] theorem State.writeCell_agenda (depth : Depth) : (s.writeCell depth).agenda = s.agenda := rfl
@[simp] theorem State.writeCell_reply (depth : Depth) : (s.writeCell depth).reply = s.reply := rfl
@[simp] theorem State.writeCell_freeCount (depth : Depth) : (s.writeCell depth).freeCount = s.freeCount := rfl

/-! ### `State.setOperand` -/

@[simp] theorem State.setOperand_operand (v : Nat) : (s.setOperand v).operand = BitVec.ofNat 24 v := rfl
@[simp] theorem State.setOperand_result (v : Nat) : (s.setOperand v).result = s.result := rfl
@[simp] theorem State.setOperand_run (v : Nat) : (s.setOperand v).run = s.run := rfl
@[simp] theorem State.setOperand_err (v : Nat) : (s.setOperand v).err = s.err := rfl
@[simp] theorem State.setOperand_ovr (v : Nat) : (s.setOperand v).ovr = s.ovr := rfl
@[simp] theorem State.setOperand_i (v : Nat) : (s.setOperand v).i = s.i := rfl
@[simp] theorem State.setOperand_j (v : Nat) : (s.setOperand v).j = s.j := rfl
@[simp] theorem State.setOperand_k (v : Nat) : (s.setOperand v).k = s.k := rfl
@[simp] theorem State.setOperand_tag (v : Nat) : (s.setOperand v).tag = s.tag := rfl
@[simp] theorem State.setOperand_abortReq (v : Nat) : (s.setOperand v).abortReq = s.abortReq := rfl
@[simp] theorem State.setOperand_actOp (v : Nat) : (s.setOperand v).actOp = s.actOp := rfl
@[simp] theorem State.setOperand_actSel (v : Nat) : (s.setOperand v).actSel = s.actSel := rfl
@[simp] theorem State.setOperand_actQ (v : Nat) : (s.setOperand v).actQ = s.actQ := rfl
@[simp] theorem State.setOperand_actAb (v : Nat) : (s.setOperand v).actAb = s.actAb := rfl
@[simp] theorem State.setOperand_actOpnd (v : Nat) : (s.setOperand v).actOpnd = s.actOpnd := rfl
@[simp] theorem State.setOperand_tbl (v : Nat) : (s.setOperand v).tbl = s.tbl := rfl
@[simp] theorem State.setOperand_agenda (v : Nat) : (s.setOperand v).agenda = s.agenda := rfl
@[simp] theorem State.setOperand_reply (v : Nat) : (s.setOperand v).reply = s.reply := rfl
@[simp] theorem State.setOperand_freeCount (v : Nat) : (s.setOperand v).freeCount = s.freeCount := rfl

/-! ### `State.takeFreeByte` -/

@[simp] theorem State.takeFreeByte_operand : s.takeFreeByte.operand = s.operand := rfl
@[simp] theorem State.takeFreeByte_result : s.takeFreeByte.result = s.result := rfl
@[simp] theorem State.takeFreeByte_run : s.takeFreeByte.run = s.run := rfl
@[simp] theorem State.takeFreeByte_err : s.takeFreeByte.err = s.err := rfl
@[simp] theorem State.takeFreeByte_ovr : s.takeFreeByte.ovr = s.ovr := rfl
@[simp] theorem State.takeFreeByte_i : s.takeFreeByte.i = s.i := rfl
@[simp] theorem State.takeFreeByte_j : s.takeFreeByte.j = s.j := rfl
@[simp] theorem State.takeFreeByte_k : s.takeFreeByte.k = s.k := rfl
@[simp] theorem State.takeFreeByte_tag : s.takeFreeByte.tag = s.tag := rfl
@[simp] theorem State.takeFreeByte_abortReq : s.takeFreeByte.abortReq = s.abortReq := rfl
@[simp] theorem State.takeFreeByte_actOp : s.takeFreeByte.actOp = s.actOp := rfl
@[simp] theorem State.takeFreeByte_actSel : s.takeFreeByte.actSel = s.actSel := rfl
@[simp] theorem State.takeFreeByte_actQ : s.takeFreeByte.actQ = s.actQ := rfl
@[simp] theorem State.takeFreeByte_actAb : s.takeFreeByte.actAb = s.actAb := rfl
@[simp] theorem State.takeFreeByte_actOpnd : s.takeFreeByte.actOpnd = s.actOpnd := rfl
@[simp] theorem State.takeFreeByte_tbl : s.takeFreeByte.tbl = s.tbl := rfl
@[simp] theorem State.takeFreeByte_agenda : s.takeFreeByte.agenda = s.agenda := rfl
@[simp] theorem State.takeFreeByte_reply : s.takeFreeByte.reply = s.reply := rfl
@[simp] theorem State.takeFreeByte_freeCount : s.takeFreeByte.freeCount = s.freeCount + 1 := rfl

/-! ### `State.resetBlock` -/

@[simp] theorem State.resetBlock_operand : s.resetBlock.operand = State.reset.operand := rfl
@[simp] theorem State.resetBlock_result : s.resetBlock.result = State.reset.result := rfl
@[simp] theorem State.resetBlock_run : s.resetBlock.run = State.reset.run := rfl
@[simp] theorem State.resetBlock_err : s.resetBlock.err = State.reset.err := rfl
@[simp] theorem State.resetBlock_ovr : s.resetBlock.ovr = State.reset.ovr := rfl
@[simp] theorem State.resetBlock_i : s.resetBlock.i = State.reset.i := rfl
@[simp] theorem State.resetBlock_j : s.resetBlock.j = State.reset.j := rfl
@[simp] theorem State.resetBlock_k : s.resetBlock.k = State.reset.k := rfl
@[simp] theorem State.resetBlock_tag : s.resetBlock.tag = State.reset.tag := rfl
@[simp] theorem State.resetBlock_abortReq : s.resetBlock.abortReq = State.reset.abortReq := rfl
@[simp] theorem State.resetBlock_actOp : s.resetBlock.actOp = State.reset.actOp := rfl
@[simp] theorem State.resetBlock_actSel : s.resetBlock.actSel = State.reset.actSel := rfl
@[simp] theorem State.resetBlock_actQ : s.resetBlock.actQ = State.reset.actQ := rfl
@[simp] theorem State.resetBlock_actAb : s.resetBlock.actAb = State.reset.actAb := rfl
@[simp] theorem State.resetBlock_actOpnd : s.resetBlock.actOpnd = State.reset.actOpnd := rfl
@[simp] theorem State.resetBlock_tbl : s.resetBlock.tbl = s.tbl := rfl
@[simp] theorem State.resetBlock_agenda : s.resetBlock.agenda = s.agenda := rfl
@[simp] theorem State.resetBlock_reply : s.resetBlock.reply = s.reply := rfl
@[simp] theorem State.resetBlock_freeCount : s.resetBlock.freeCount = s.freeCount := rfl

/-! ### `State.yield`: only the agenda changes -/

@[simp] theorem State.yield_operand : s.yield.operand = s.operand := by
  unfold State.yield; split <;> rfl
@[simp] theorem State.yield_result : s.yield.result = s.result := by
  unfold State.yield; split <;> rfl
@[simp] theorem State.yield_run : s.yield.run = s.run := by
  unfold State.yield; split <;> rfl
@[simp] theorem State.yield_err : s.yield.err = s.err := by
  unfold State.yield; split <;> rfl
@[simp] theorem State.yield_ovr : s.yield.ovr = s.ovr := by
  unfold State.yield; split <;> rfl
@[simp] theorem State.yield_i : s.yield.i = s.i := by
  unfold State.yield; split <;> rfl
@[simp] theorem State.yield_j : s.yield.j = s.j := by
  unfold State.yield; split <;> rfl
@[simp] theorem State.yield_k : s.yield.k = s.k := by
  unfold State.yield; split <;> rfl
@[simp] theorem State.yield_tag : s.yield.tag = s.tag := by
  unfold State.yield; split <;> rfl
@[simp] theorem State.yield_abortReq : s.yield.abortReq = s.abortReq := by
  unfold State.yield; split <;> rfl
@[simp] theorem State.yield_actOp : s.yield.actOp = s.actOp := by
  unfold State.yield; split <;> rfl
@[simp] theorem State.yield_actSel : s.yield.actSel = s.actSel := by
  unfold State.yield; split <;> rfl
@[simp] theorem State.yield_actQ : s.yield.actQ = s.actQ := by
  unfold State.yield; split <;> rfl
@[simp] theorem State.yield_actAb : s.yield.actAb = s.actAb := by
  unfold State.yield; split <;> rfl
@[simp] theorem State.yield_actOpnd : s.yield.actOpnd = s.actOpnd := by
  unfold State.yield; split <;> rfl
@[simp] theorem State.yield_tbl : s.yield.tbl = s.tbl := by
  unfold State.yield; split <;> rfl
@[simp] theorem State.yield_reply : s.yield.reply = s.reply := by
  unfold State.yield; split <;> rfl
@[simp] theorem State.yield_freeCount : s.yield.freeCount = s.freeCount := by
  unfold State.yield; split <;> rfl

theorem State.yield_agenda_nil (h : s.agenda = []) : s.yield.agenda = [] := by
  unfold State.yield; split <;> simp_all

theorem State.yield_agenda_seq (rest : List AgentAction) (h : s.agenda = .seq :: rest) : s.yield.agenda = rest := by
  unfold State.yield; split <;> simp_all

theorem State.yield_eq : s.yield = { s with agenda := s.yield.agenda } := by
  unfold State.yield; split <;> rfl

/-! ### `State.advance`: only the sweep counter changes -/

@[simp] theorem State.advance_operand : s.advance.operand = s.operand := by
  unfold State.advance; split_ifs <;> rfl
@[simp] theorem State.advance_result : s.advance.result = s.result := by
  unfold State.advance; split_ifs <;> rfl
@[simp] theorem State.advance_run : s.advance.run = s.run := by
  unfold State.advance; split_ifs <;> rfl
@[simp] theorem State.advance_err : s.advance.err = s.err := by
  unfold State.advance; split_ifs <;> rfl
@[simp] theorem State.advance_ovr : s.advance.ovr = s.ovr := by
  unfold State.advance; split_ifs <;> rfl
@[simp] theorem State.advance_tag : s.advance.tag = s.tag := by
  unfold State.advance; split_ifs <;> rfl
@[simp] theorem State.advance_abortReq : s.advance.abortReq = s.abortReq := by
  unfold State.advance; split_ifs <;> rfl
@[simp] theorem State.advance_actOp : s.advance.actOp = s.actOp := by
  unfold State.advance; split_ifs <;> rfl
@[simp] theorem State.advance_actSel : s.advance.actSel = s.actSel := by
  unfold State.advance; split_ifs <;> rfl
@[simp] theorem State.advance_actQ : s.advance.actQ = s.actQ := by
  unfold State.advance; split_ifs <;> rfl
@[simp] theorem State.advance_actAb : s.advance.actAb = s.actAb := by
  unfold State.advance; split_ifs <;> rfl
@[simp] theorem State.advance_actOpnd : s.advance.actOpnd = s.actOpnd := by
  unfold State.advance; split_ifs <;> rfl
@[simp] theorem State.advance_tbl : s.advance.tbl = s.tbl := by
  unfold State.advance; split_ifs <;> rfl
@[simp] theorem State.advance_agenda : s.advance.agenda = s.agenda := by
  unfold State.advance; split_ifs <;> rfl
@[simp] theorem State.advance_reply : s.advance.reply = s.reply := by
  unfold State.advance; split_ifs <;> rfl
@[simp] theorem State.advance_freeCount : s.advance.freeCount = s.freeCount := by
  unfold State.advance; split_ifs <;> rfl

end

end Sys2Proof.Machine
end

