-- ==== Sys2Proof/Laws/Ops.lean ====
section
/-! SUPPORT. One lemma for each shared operation that says once everything it can do. -/

namespace Sys2Proof.Machine

/-! ### Acceptance -/

/-- Everything acceptance can do (R73). -/
theorem accept_cases (op : BitVec 4) (sel : BitVec 3) (q : BitVec 5) (ab : BitVec 4) (s : State) :
    (s.run = .busy ∧ op = 0x9#4 ∧ accept op sel q ab s = s.requestAbort) ∨
    (s.run = .busy ∧ op ≠ 0x9#4 ∧ accept op sel q ab s = s.raiseOvr) ∨
    (s.run ≠ .busy ∧ op = 0x9#4 ∧ accept op sel q ab s = s.clearOvr) ∨
    (s.run ≠ .busy ∧ op ≠ 0x9#4 ∧ check op sel q ab = .none ∧ op = 0x8#4 ∧
      accept op sel q ab s = ((s.clearOvr.latch op sel q ab).leaveError).startSweep) ∨
    (s.run ≠ .busy ∧ op ≠ 0x9#4 ∧ check op sel q ab = .none ∧ op ≠ 0x8#4 ∧
      accept op sel q ab s = (s.clearOvr.latch op sel q ab).leaveError) ∨
    (s.run ≠ .busy ∧ op ≠ 0x9#4 ∧ check op sel q ab ≠ .none ∧
      accept op sel q ab s = s.clearOvr.errorEntry (check op sel q ab)) := by
  unfold accept
  split_ifs with h1 h2 h3 h4 h5 <;> simp_all

/-- Acceptance touches neither the table, nor `OPERAND`, nor the model's own fields. -/
theorem accept_frame (op : BitVec 4) (sel : BitVec 3) (q : BitVec 5) (ab : BitVec 4) (s : State) :
    (accept op sel q ab s).tbl = s.tbl ∧ (accept op sel q ab s).operand = s.operand ∧
    (accept op sel q ab s).agenda = s.agenda ∧ (accept op sel q ab s).reply = s.reply ∧
    (accept op sel q ab s).freeCount = s.freeCount := by
  rcases accept_cases op sel q ab s with ⟨-, -, h⟩ | ⟨-, -, h⟩ | ⟨-, -, h⟩ | ⟨-, -, -, -, h⟩ | ⟨-, -, -, -, h⟩ |
    ⟨-, -, -, h⟩ <;> rw [h] <;> exact ⟨rfl, rfl, rfl, rfl, rfl⟩

/-- A command that the check lets through has an opcode from 1 to 8, or is ABORT's (R151). -/
theorem check_none_op (op : BitVec 4) (sel : BitVec 3) (q : BitVec 5) (ab : BitVec 4)
    (h : check op sel q ab = .none) : 1 ≤ op.toNat ∧ op.toNat ≤ 9 := by
  unfold check at h
  split_ifs at h with h1 h2 h3
  simp only [Bool.or_eq_true, decide_eq_true_eq, not_or, not_le] at h1
  exact ⟨Nat.one_le_iff_ne_zero.mpr fun h0 => h1.1 (BitVec.eq_of_toNat_eq (h0.trans rfl)), by omega⟩

/-- A DECODE or BUILD that the check lets through names one of the seven algorithms (R151, R153). -/
theorem check_none_algorithm (op : BitVec 4) (sel : BitVec 3) (q : BitVec 5) (ab : BitVec 4)
    (h : check op sel q ab = .none) (hop : op = 0x7#4 ∨ op = 0x8#4) : ∃ algo, algorithmOf sel = some algo := by
  have hs := sel.isLt
  unfold check at h
  split_ifs at h with h1 h2 h3
  have hsel : sel.toNat ≠ 7 := fun h7 => h2 (by simpa [hop] using BitVec.eq_of_toNat_eq (h7.trans rfl))
  have hcases : sel.toNat = 0 ∨ sel.toNat = 1 ∨ sel.toNat = 2 ∨ sel.toNat = 3 ∨ sel.toNat = 4 ∨ sel.toNat = 5 ∨
      sel.toNat = 6 := by omega
  rcases hcases with h | h | h | h | h | h | h <;> simp [algorithmOf, h]

/-! ### A command's meaning -/

theorem command_offered (op : BitVec 4) (sel : BitVec 3) (q : BitVec 5) (ab : BitVec 4)
    (rule : State → Host.Outcome State Fault Refusal) (s : State) (h : s.cmdWritePending = true) :
    command op sel q ab rule s = .next (accept op sel q ab s.consume) := by
  simp [command, h]

theorem command_sequenced (op : BitVec 4) (sel : BitVec 3) (q : BitVec 5) (ab : BitVec 4)
    (rule : State → Host.Outcome State Fault Refusal) (s : State) (h : s.cmdWritePending = false) :
    command op sel q ab rule s = seqStep op sel q ab rule s := by
  simp [command, h]

/-- Everything SEQ's step around a rule can do. -/
theorem seqStep_cases (op : BitVec 4) (sel : BitVec 3) (q : BitVec 5) (ab : BitVec 4)
    (rule : State → Host.Outcome State Fault Refusal) (s : State) :
    (s.run ≠ .busy ∧ seqStep op sel q ab rule s = .next s.yield) ∨
    (s.run = .busy ∧ s.latched op sel q ab = true ∧ seqStep op sel q ab rule s = rule s.yield) ∨
    (s.run = .busy ∧ s.latched op sel q ab = false ∧ seqStep op sel q ab rule s = .fault .noSequencerStep) := by
  unfold seqStep
  split_ifs with h1 h2 <;> simp_all

theorem latched_iff (op : BitVec 4) (sel : BitVec 3) (q : BitVec 5) (ab : BitVec 4) (s : State) :
    s.latched op sel q ab = true ↔ s.actOp = op ∧ s.actSel = sel ∧ s.actQ = q ∧ s.actAb = ab ∧ op ≠ 0x9#4 ∧
      check op sel q ab = .none := by
  simp [State.latched, and_assoc]

/-- What SEQ's step does for a command, by its own rule (R131, R134). -/
def ruleOf : Instr → State → Host.Outcome State Fault Refusal
  | .menc _ _ _ => singleResult fun opnd q _ => packAxes (mencValue (value16Operand opnd) q)
  | .mench _ _ _ => singleResult fun opnd _ a => packAxes (menchValue (value24Operand opnd) a)
  | .mdec _ _ _ => singleResult fun opnd _ _ => packValue (mdecValue (axesOperand opnd))
  | .mdech _ _ _ => singleResult fun opnd _ a => packValue (mdechValue (axesOperand opnd) a)
  | .hto _ _ _ => singleResult fun opnd _ a => packAxes (hto (axesOperand opnd) a)
  | .hfrom _ _ _ => singleResult fun opnd _ a => packAxes (hfrom (axesOperand opnd) a)
  | .decodeHilbert _ _ => singleResult fun opnd q a =>
      packDepth (decodeColour .hilbert (firstOperand opnd) (secondOperand opnd) (thirdOperand opnd) q a)
  | .decodeTriangle _ _ => singleResult fun opnd q a =>
      packDepth (decodeColour .triangle (firstOperand opnd) (secondOperand opnd) (thirdOperand opnd) q a)
  | .decodeMorton _ _ => singleResult fun opnd q a =>
      packDepth (decodeColour .morton (firstOperand opnd) (secondOperand opnd) (thirdOperand opnd) q a)
  | .decodePacked _ _ => singleResult fun opnd q a =>
      packDepth (decodeColour .packed (firstOperand opnd) (secondOperand opnd) (thirdOperand opnd) q a)
  | .decodeSplit _ _ => singleResult fun opnd q a =>
      packDepth (decodeColour .split (firstOperand opnd) (secondOperand opnd) (thirdOperand opnd) q a)
  | .decodePhase _ _ => singleResult fun opnd q a =>
      packDepth (decodeColour .phase (firstOperand opnd) (secondOperand opnd) (thirdOperand opnd) q a)
  | .decodeHue _ _ => singleResult fun opnd q a =>
      packDepth (decodeColour .hue (firstOperand opnd) (secondOperand opnd) (thirdOperand opnd) q a)
  | .build _ _ _ => buildStep
  | .abort _ _ _ => fun _ => .fault .noSequencerStep

/-- Every meaning is `command` of its own fields and its own rule. -/
theorem exec_eq (i : Instr) (s : State) :
    exec i s = command (opField (encode i)) (selField (encode i)) (qField (encode i)) (abField (encode i))
      (ruleOf i) s := by
  cases i <;>
    simp only [encode, opField_commandWord, selField_commandWord, qField_commandWord, abField_commandWord] <;> rfl

/-- A host write to `CMD` of a command is that command's acceptance (R73). -/
theorem exec_offered (i : Instr) (s : State) (h : s.cmdWritePending = true) :
    exec i s = .next (accept (opField (encode i)) (selField (encode i)) (qField (encode i)) (abField (encode i))
      s.consume) := by
  rw [exec_eq, command_offered _ _ _ _ _ _ h]

/-- A host write to `CMD` is the acceptance of its word, whatever the word is (R68, R73). -/
theorem submitWord_offered (w : Word) (s : State) (h : s.cmdWritePending = true) :
    submitWord w s = .next (accept (opField w) (selField w) (qField w) (abField w) s.consume) := by
  unfold submitWord
  split
  · rename_i i hi
    rw [exec_offered i s h, encode_of_decodeWord w i hi]
  · rfl

/-! ### The BUILD step -/

/-- Everything the BUILD step can do (R134). -/
theorem buildStep_cases (s : State) :
    (s.abortDue = true ∧ buildStep s = .next s.stopBuild) ∨
    (s.abortDue = false ∧ ∃ algo, algorithmOf s.actSel = some algo ∧ buildStep s = .next (s.buildCell algo)) ∨
    (s.abortDue = false ∧ algorithmOf s.actSel = none ∧ buildStep s = .fault .noSequencerStep) := by
  unfold buildStep
  cases h1 : s.abortDue <;> cases h2 : algorithmOf s.actSel <;> simp

/-- The advance is the next cell number, but for the last cell, which wraps to (0, 0, 0) (R135). -/
theorem advance_cases (s : State) :
    (s.k.toNat < 254 ∧ s.advance = { s with k := s.k + 1 }) ∨
    (254 ≤ s.k.toNat ∧ s.j.toNat < 254 ∧ s.advance = { s with k := 0, j := s.j + 1 }) ∨
    (254 ≤ s.k.toNat ∧ 254 ≤ s.j.toNat ∧ s.i.toNat < 254 ∧ s.advance = { s with k := 0, j := 0, i := s.i + 1 }) ∨
    (254 ≤ s.k.toNat ∧ 254 ≤ s.j.toNat ∧ 254 ≤ s.i.toNat ∧ s.advance = { s with k := 0, j := 0, i := 0 }) := by
  unfold State.advance
  split_ifs with h1 h2 h3
  · exact .inl ⟨h1, rfl⟩
  · exact .inr (.inl ⟨by omega, h2, rfl⟩)
  · exact .inr (.inr (.inl ⟨by omega, by omega, h3, rfl⟩))
  · exact .inr (.inr (.inr ⟨by omega, by omega, by omega, rfl⟩))

theorem atLastCell_iff (s : State) :
    s.atLastCell = true ↔ 254 ≤ s.k.toNat ∧ 254 ≤ s.j.toNat ∧ 254 ≤ s.i.toNat := by
  simp [State.atLastCell, and_assoc]

/-- Everything that writing one cell of a BUILD can do (R134, R135). -/
theorem buildCell_cases (algo : AlgorithmId) (s : State) :
    let depth := decodeColour algo s.i.toNat s.j.toNat s.k.toNat s.actQ.toNat s.actAb.toNat
    (s.atLastCell = false ∧ s.buildCell algo = (s.writeCell depth).advance) ∨
    (s.atLastCell = true ∧ s.buildCell algo = (s.writeCell depth).advance.finishBuild) := by
  unfold State.buildCell
  cases h : s.atLastCell <;> simp

/-! ### The host's accesses -/

theorem registerValue_none (n : Nat) (s : State) : registerValue n s = none ↔ 5 < n := by
  unfold registerValue
  split <;> simp
  grind

theorem readRegister_cases (n : Nat) (s : State) :
    (n ≤ 5 ∧ ∃ v, registerValue n s = some v ∧ readRegister n s = .next (s.consume.answer v)) ∨
    (5 < n ∧ readRegister n s = .refused (.noSuchRegister n)) := by
  unfold readRegister
  cases h : registerValue n s with
  | none => exact .inr ⟨(registerValue_none n s).mp h, rfl⟩
  | some v =>
    refine .inl ⟨?_, v, rfl, rfl⟩
    by_contra hn
    rw [(registerValue_none n s).mpr (by omega)] at h
    cases h

theorem writeRegister_cases (n v : Nat) (s : State) :
    (n = 0 ∧ writeRegister n v s = .next (s.consume.setOperand v)) ∨
    (n = 1 ∧ writeRegister n v s = submitWord (BitVec.ofNat 16 v) s) ∨
    (2 ≤ n ∧ n ≤ 5 ∧ writeRegister n v s = .next s.consume) ∨
    (5 < n ∧ writeRegister n v s = .refused (.noSuchRegister n)) := by
  unfold writeRegister
  split <;> simp
  grind

theorem readTable_cases (addr : Nat) (s : State) :
    (addr < Config.tblBytes ∧ s.building = true ∧
      readTable addr s = .next (s.consume.takeFreeByte.answer ((Config.freeByte s.freeCount).setWidth 24))) ∨
    (addr < Config.tblBytes ∧ s.building = false ∧
      readTable addr s = .next (s.consume.answer ((s.tbl.read addr).setWidth 24))) ∨
    (Config.tblBytes ≤ addr ∧ readTable addr s = .refused (.noSuchTableByte addr)) := by
  unfold readTable
  split_ifs with h1 h2
  · exact .inl ⟨h1, h2, rfl⟩
  · exact .inr (.inl ⟨h1, by simpa using h2, rfl⟩)
  · exact .inr (.inr ⟨by omega, rfl⟩)

end Sys2Proof.Machine
end

