-- ==== Sys2Proof/Laws/PerInstr.lean ====
section
/-! SUPPORT. Statements for all commands, one lemma for each constructor of `Instr`: acceptance's check of a command's
word agrees with the command's own well-formedness (spec/60_exceptions.md R151 to R153). -/

namespace Sys2Proof.Laws

open Sys2Proof.Machine

/-- What the check reports for the command's word: nothing when the command is well-formed, else
`UnknownAlgorithmError` for a BUILD of algorithm 7 and `ConfigurationError` for the rest. ABORT is never checked. -/
def CheckAgrees.Statement (i : Instr) : Prop :=
  opField (encode i) ≠ 0x9#4 →
    check (opField (encode i)) (selField (encode i)) (qField (encode i)) (abField (encode i)) =
      if i.wellFormed then .none
      else if opField (encode i) = 0x8#4 ∧ selField (encode i) = 7#3 then .unknownAlgorithmError
      else .configurationError

theorem CheckAgrees.menc (sel : BitVec 3) (q : BitVec 5) (ab : BitVec 4) : CheckAgrees.Statement (.menc sel q ab) := by
  simp [Statement, encode, check, cfgValid, Instr.wellFormed, Instr.configInRange]

theorem CheckAgrees.mench (sel : BitVec 3) (q : BitVec 5) (ab : BitVec 4) : CheckAgrees.Statement (.mench sel q ab) := by
  simp [Statement, encode, check, cfgValid, Instr.wellFormed, Instr.configInRange]

theorem CheckAgrees.mdec (sel : BitVec 3) (q : BitVec 5) (ab : BitVec 4) : CheckAgrees.Statement (.mdec sel q ab) := by
  simp [Statement, encode, check, cfgValid, Instr.wellFormed, Instr.configInRange]

theorem CheckAgrees.mdech (sel : BitVec 3) (q : BitVec 5) (ab : BitVec 4) : CheckAgrees.Statement (.mdech sel q ab) := by
  simp [Statement, encode, check, cfgValid, Instr.wellFormed, Instr.configInRange]

theorem CheckAgrees.hto (sel : BitVec 3) (q : BitVec 5) (ab : BitVec 4) : CheckAgrees.Statement (.hto sel q ab) := by
  simp [Statement, encode, check, cfgValid, Instr.wellFormed, Instr.configInRange]

theorem CheckAgrees.hfrom (sel : BitVec 3) (q : BitVec 5) (ab : BitVec 4) : CheckAgrees.Statement (.hfrom sel q ab) := by
  simp [Statement, encode, check, cfgValid, Instr.wellFormed, Instr.configInRange]

theorem CheckAgrees.decodeHilbert (q : BitVec 5) (ab : BitVec 4) : CheckAgrees.Statement (.decodeHilbert q ab) := by
  simp [Statement, encode, check, cfgValid, Instr.wellFormed, Instr.configInRange]

theorem CheckAgrees.decodeTriangle (q : BitVec 5) (ab : BitVec 4) : CheckAgrees.Statement (.decodeTriangle q ab) := by
  simp [Statement, encode, check, cfgValid, Instr.wellFormed, Instr.configInRange]

theorem CheckAgrees.decodeMorton (q : BitVec 5) (ab : BitVec 4) : CheckAgrees.Statement (.decodeMorton q ab) := by
  simp [Statement, encode, check, cfgValid, Instr.wellFormed, Instr.configInRange]

theorem CheckAgrees.decodePacked (q : BitVec 5) (ab : BitVec 4) : CheckAgrees.Statement (.decodePacked q ab) := by
  simp [Statement, encode, check, cfgValid, Instr.wellFormed, Instr.configInRange, Instr.lowPartInRange]

theorem CheckAgrees.decodeSplit (q : BitVec 5) (ab : BitVec 4) : CheckAgrees.Statement (.decodeSplit q ab) := by
  simp [Statement, encode, check, cfgValid, Instr.wellFormed, Instr.configInRange, Instr.lowPartInRange]

theorem CheckAgrees.decodePhase (q : BitVec 5) (ab : BitVec 4) : CheckAgrees.Statement (.decodePhase q ab) := by
  simp [Statement, encode, check, cfgValid, Instr.wellFormed, Instr.configInRange]

theorem CheckAgrees.decodeHue (q : BitVec 5) (ab : BitVec 4) : CheckAgrees.Statement (.decodeHue q ab) := by
  simp [Statement, encode, check, cfgValid, Instr.wellFormed, Instr.configInRange]

theorem CheckAgrees.build (sel : BitVec 3) (q : BitVec 5) (ab : BitVec 4) : CheckAgrees.Statement (.build sel q ab) := by
  unfold Statement
  by_cases h7 : sel = 7#3
  · subst h7; simp [encode, check, Instr.wellFormed]
  · simp [encode, check, cfgValid, Instr.wellFormed, Instr.configInRange, Instr.lowPartInRange, h7]

theorem CheckAgrees.abort (sel : BitVec 3) (q : BitVec 5) (ab : BitVec 4) : CheckAgrees.Statement (.abort sel q ab) := fun h =>
  absurd (opField_commandWord 0x9#4 sel q ab) h

end Sys2Proof.Laws
end

