-- ==== Sys2Proof/Laws/Step.lean ====
section
/-! SUPPORT. What one step of the machine can do, said once: the inversion of `step`. -/

namespace Sys2Proof.Machine

/-- The ways in which a step goes from `s` to a next state (R8, R10). -/
inductive StepTo (s : State) : State → Prop where
  | readRegister (n : Nat) (v : Word24) (rest : List AgentAction) (head : s.agenda = .hostRead n :: rest) (small : n ≤ 5)
      (value : registerValue n s = some v) : StepTo s (s.consume.answer v)
  | writeOperand (v : Nat) (rest : List AgentAction) (head : s.agenda = .hostWrite 0 v :: rest) :
      StepTo s (s.consume.setOperand v)
  | submit (v : Nat) (rest : List AgentAction) (head : s.agenda = .hostWrite 1 v :: rest) :
      StepTo s (accept (opField (BitVec.ofNat 16 v)) (selField (BitVec.ofNat 16 v)) (qField (BitVec.ofNat 16 v))
        (abField (BitVec.ofNat 16 v)) s.consume)
  | writeIgnored (n v : Nat) (rest : List AgentAction) (head : s.agenda = .hostWrite n v :: rest) (low : 2 ≤ n)
      (high : n ≤ 5) : StepTo s s.consume
  | readFree (addr : Nat) (rest : List AgentAction) (head : s.agenda = .tblRead addr :: rest)
      (inside : addr < Config.tblBytes) (building : s.building = true) :
      StepTo s (s.consume.takeFreeByte.answer ((Config.freeByte s.freeCount).setWidth 24))
  | readStored (addr : Nat) (rest : List AgentAction) (head : s.agenda = .tblRead addr :: rest)
      (inside : addr < Config.tblBytes) (building : s.building = false) :
      StepTo s (s.consume.answer ((s.tbl.read addr).setWidth 24))
  | reset (rest : List AgentAction) (head : s.agenda = .reset :: rest) : StepTo s s.consume.resetBlock
  | inert (turn : s.sequencerNext) (run : s.run ≠ .busy) : StepTo s s.yield
  | complete (i : Instr) (r : Word24) (turn : s.sequencerNext) (run : s.run = .busy) (word : encode i = s.latchedWord)
      (notBuild : s.actOp ≠ 0x8#4) (notAbort : s.actOp ≠ 0x9#4)
      (accepted : check s.actOp s.actSel s.actQ s.actAb = .none)
      (result : ruleOf i s.yield = .next (s.yield.complete r)) : StepTo s (s.yield.complete r)
  | stopBuild (turn : s.sequencerNext) (run : s.run = .busy) (op : s.actOp = 0x8#4)
      (accepted : check s.actOp s.actSel s.actQ s.actAb = .none) (due : s.abortDue = true) : StepTo s s.yield.stopBuild
  | buildCell (algo : AlgorithmId) (turn : s.sequencerNext) (run : s.run = .busy) (op : s.actOp = 0x8#4)
      (accepted : check s.actOp s.actSel s.actQ s.actAb = .none) (due : s.abortDue = false)
      (algorithm : algorithmOf s.actSel = some algo) : StepTo s (s.yield.buildCell algo)

/-- A command's own rule, when the command is neither BUILD nor ABORT, completes with some result (R131). -/
theorem ruleOf_single (i : Instr) (s : State) (hb : opField (encode i) ≠ 0x8#4) (ha : opField (encode i) ≠ 0x9#4) :
    ∃ r, ruleOf i s = .next (s.complete r) := by
  cases i <;> first | exact ⟨_, rfl⟩ | simp [encode] at hb ha

theorem yield_abortDue (s : State) : s.yield.abortDue = s.abortDue := by
  simp [State.abortDue]

/-- SEQ's move, when it goes on (R131, R134, R164). -/
theorem sequencerMove_inv (s t : State) (turn : s.sequencerNext) (h : sequencerMove s = .next t) : StepTo s t := by
  have hpend : s.cmdWritePending = false := by
    rcases turn with h0 | ⟨rest, h0⟩ <;> simp [State.cmdWritePending, h0]
  unfold sequencerMove at h
  split_ifs at h with hrun
  · split at h
    · rename_i i hi
      have hword := encode_of_decodeWord _ _ hi
      rw [exec_eq, command_sequenced _ _ _ _ _ _ hpend, hword] at h
      simp only [State.latchedWord, opField_commandWord, selField_commandWord, qField_commandWord,
        abField_commandWord] at h
      rcases seqStep_cases s.actOp s.actSel s.actQ s.actAb (ruleOf i) s with ⟨h1, -⟩ | ⟨-, hl, he⟩ | ⟨-, -, he⟩
      · exact absurd hrun h1
      · rw [he] at h
        obtain ⟨-, -, -, -, hna, hc⟩ := (latched_iff _ _ _ _ _).mp hl
        have hop : opField (encode i) = s.actOp := by rw [hword]; simp [State.latchedWord]
        by_cases hb : s.actOp = 0x8#4
        · have hrule : ruleOf i = buildStep := by
            rw [hb] at hop
            cases i <;> first | rfl | simp [encode] at hop
          rw [hrule] at h
          rcases buildStep_cases s.yield with ⟨hd, he'⟩ | ⟨hd, algo, ha, he'⟩ | ⟨-, -, he'⟩ <;> rw [he'] at h
          · cases h
            exact .stopBuild turn hrun hb hc (by rwa [yield_abortDue] at hd)
          · cases h
            exact .buildCell algo turn hrun hb hc (by rwa [yield_abortDue] at hd) (by simpa using ha)
          · cases h
        · obtain ⟨r, hr⟩ := ruleOf_single i s.yield (by rwa [hop]) (by rwa [hop])
          rw [hr] at h
          cases h
          exact .complete i r turn hrun hword hb hna hc hr
      · rw [he] at h; cases h
    · cases h
  · cases h
    exact .inert turn hrun

/-- Everything that a step which goes on can do. -/
theorem step_cases (s t : State) (h : step s = .next t) : StepTo s t := by
  unfold step nextAction at h
  split at h
  · rename_i n rest hhead
    rcases readRegister_cases n s with ⟨hn, v, hv, he⟩ | ⟨-, he⟩ <;> rw [he] at h <;> cases h
    exact .readRegister n v rest hhead hn hv
  · rename_i n v rest hhead
    rcases writeRegister_cases n v s with ⟨rfl, he⟩ | ⟨rfl, he⟩ | ⟨hl, hh, he⟩ | ⟨-, he⟩ <;> rw [he] at h
    · cases h; exact .writeOperand v rest hhead
    · rw [submitWord_offered _ _ (by simp [State.cmdWritePending, hhead])] at h
      cases h
      exact .submit v rest hhead
    · cases h; exact .writeIgnored n v rest hhead hl hh
    · cases h
  · rename_i addr rest hhead
    rcases readTable_cases addr s with ⟨hi, hb, he⟩ | ⟨hi, hb, he⟩ | ⟨-, he⟩ <;> rw [he] at h <;> cases h
    · exact .readFree addr rest hhead hi hb
    · exact .readStored addr rest hhead hi hb
  · rename_i rest hhead
    cases h
    exact .reset rest hhead
  · rename_i rest hhead
    exact sequencerMove_inv s t (.inr ⟨rest, hhead⟩) h
  · rename_i hhead
    exact sequencerMove_inv s t (.inl hhead) h

end Sys2Proof.Machine
end

