-- ==== Sys2Proof/Tests/Slice0.lean ====
section
/-! SUPPORT. Tests: ill-formed commands that the check refuses, words written out from the spec's encoding, single steps
against the vectors of spec/95_test_vectors.md, and for each statement with hypotheses a state that meets them. -/

namespace Sys2Proof.Tests

open Sys2Proof Sys2Proof.Machine

/-! ### Helpers -/

/-- The state after an outcome, if there is one. -/
def after (o : Host.Outcome State Fault Refusal) : Option State :=
  match o with
  | .next t => some t
  | _ => none

/-- Right after reset, with these actions pending. -/
def pending (actions : List AgentAction) : State := { State.reset with agenda := actions }

/-- BUSY with the command word `w`, latched with the operand `o`, and `OPERAND` holding something else. -/
def working (w : Word) (o : Nat) : State :=
  { State.reset with run := .busy, actOp := opField w, actSel := selField w, actQ := qField w, actAb := abField w,
                     actOpnd := BitVec.ofNat 24 o, operand := 5 }

/-- BUSY with the BUILD of word `w`, about to write cell (i, j, k). -/
def sweeping (w : Word) (i j k : Byte) (abort : Bool) : State :=
  { working w 0 with i := i, j := j, k := k, abortReq := abort }

/-- What the command word `w` leaves in `RESULT` for the operand `o`, after one SEQ step. -/
def resultOf (w : Word) (o : Nat) : Option Nat := (after (step (working w o))).map (fun t => t.result.toNat)

/-- `STATUS` after the host has written `v` to `CMD`. -/
def statusAfter (s : State) (v : Nat) : Option Nat :=
  (after (step { s with agenda := [.hostWrite 1 v] })).map (fun t => t.status.toNat)

/-- The reply to a host read of register `n`. -/
def registerRead (s : State) (n : Nat) : Option (Option Word24) :=
  (after (step { s with agenda := [.hostRead n] })).map State.reply

/-- The three bytes of the cell that a BUILD step from `s` writes. -/
def cellWritten (s : State) : Option (List (Option Byte)) :=
  (after (step s)).map fun t =>
    let base := cellBase s.i.toNat s.j.toNat s.k.toNat
    [t.tbl.stored base, t.tbl.stored (base + 1), t.tbl.stored (base + 2)]

/-! ### WellFormed: what the check refuses (R152, R153) -/

theorem test_refuses_q_0 : Instr.wellFormed (.menc 0 0 5) = false := by decide
theorem test_refuses_q_17 : Instr.wellFormed (.menc 0 17 8) = false := by decide
theorem test_refuses_a_0 : Instr.wellFormed (.decodeHilbert 16 0) = false := by decide
theorem test_refuses_a_9 : Instr.wellFormed (.hto 0 16 9) = false := by decide
theorem test_refuses_a_above_q : Instr.wellFormed (.decodeHilbert 4 5) = false := by decide
theorem test_refuses_packed_low_part_9 : Instr.wellFormed (.decodePacked 10 1) = false := by decide
theorem test_refuses_split_low_part_9 : Instr.wellFormed (.decodeSplit 10 1) = false := by decide
theorem test_refuses_build_algorithm_7 : Instr.wellFormed (.build 7 16 8) = false := by decide
theorem test_refuses_build_packed_low_part_9 : Instr.wellFormed (.build 3 10 1) = false := by decide
theorem test_refuses_build_split_low_part_9 : Instr.wellFormed (.build 4 10 1) = false := by decide
theorem test_accepts_packed_low_part_8 : Instr.wellFormed (.decodePacked 9 1) = true := by decide
theorem test_accepts_phase_low_part_9 : Instr.wellFormed (.decodePhase 10 1) = true := by decide
theorem test_accepts_any_abort : Instr.wellFormed (.abort 7 31 15) = true := by decide

/-- R152: 100 pairs pass the general check, and 72 that of packed and split. -/
theorem test_counts_of_valid_pairs :
    ((List.range 512).countP fun n => Instr.wellFormed (.mdec 0 (BitVec.ofNat 5 (n / 16)) (BitVec.ofNat 4 n))) = 100 ∧
    ((List.range 512).countP fun n => Instr.wellFormed (.decodeSplit (BitVec.ofNat 5 (n / 16)) (BitVec.ofNat 4 n))) =
      72 := by
  decide +kernel

/-! ### Decode: words written out from the encoding table of 30_encoding.md, section 7 -/

theorem test_decodes_menc : decodeWord 0b0001_000_01010_1000#16 = .ok (.menc 0 10 8) := by decide
theorem test_decodes_mench : decodeWord 0b0010_101_10000_0101#16 = .ok (.mench 5 16 5) := by decide
theorem test_decodes_mdec : decodeWord 0b0011_111_10000_1000#16 = .ok (.mdec 7 16 8) := by decide
theorem test_decodes_mdech : decodeWord 0b0100_010_01100_0101#16 = .ok (.mdech 2 12 5) := by decide
theorem test_decodes_hto : decodeWord 0b0101_001_10000_0101#16 = .ok (.hto 1 16 5) := by decide
theorem test_decodes_hfrom : decodeWord 0b0110_100_00111_0011#16 = .ok (.hfrom 4 7 3) := by decide
theorem test_decodes_decodeHilbert : decodeWord 0b0111_000_10000_0101#16 = .ok (.decodeHilbert 16 5) := by decide
theorem test_decodes_decodeTriangle : decodeWord 0b0111_001_10000_1000#16 = .ok (.decodeTriangle 16 8) := by decide
theorem test_decodes_decodeMorton : decodeWord 0b0111_010_01001_1000#16 = .ok (.decodeMorton 9 8) := by decide
theorem test_decodes_decodePacked : decodeWord 0b0111_011_01100_0100#16 = .ok (.decodePacked 12 4) := by decide
theorem test_decodes_decodeSplit : decodeWord 0b0111_100_01101_0101#16 = .ok (.decodeSplit 13 5) := by decide
theorem test_decodes_decodePhase : decodeWord 0b0111_101_01010_0001#16 = .ok (.decodePhase 10 1) := by decide
theorem test_decodes_decodeHue : decodeWord 0b0111_110_00001_0001#16 = .ok (.decodeHue 1 1) := by decide
theorem test_decodes_build : decodeWord 0b1000_110_10000_1000#16 = .ok (.build 6 16 8) := by decide
theorem test_decodes_abort : decodeWord 0b1001_111_11111_1111#16 = .ok (.abort 7 31 15) := by decide
theorem test_rejects_opcode_0 : decodeWord 0x0000#16 = .error .illegalCommand := by decide
theorem test_rejects_opcode_A : decodeWord 0xA708#16 = .error .illegalCommand := by decide
theorem test_rejects_opcode_F : decodeWord 0xFE00#16 = .error .illegalCommand := by decide
theorem test_rejects_algorithm_7 : decodeWord 0x7E00#16 = .error .unknownAlgorithm := by decide
theorem test_keeps_build_algorithm_7 : decodeWord 0x8E00#16 = .ok (.build 7 0 0) := by decide
theorem test_table_word : decodeTableWord 16 0x8105 = some (.build 0 16 5) := by decide

/-! ### Single steps: 95_test_vectors.md, sections 2 to 6 -/

theorem test_menc_shifts : resultOf 0x10C8 0xABCD = some 0x281E34 := by decide
theorem test_menc_drops_high_bits : resultOf 0x10A8 0xFFFFFF = some 0x3C3C3C := by decide
theorem test_mench : resultOf 0x2105 0x001234 = some 0x030218 := by decide
theorem test_mench_full_width : resultOf 0x2108 0xABCDEF = some 0xBF6DA7 := by decide
theorem test_mdec : resultOf 0x3108 0x123456 = some 0x0170E8 := by decide
theorem test_mdec_ignores_bit_6 : resultOf 0x3108 0x404040 = some 0 := by decide
theorem test_mdech : resultOf 0x4105 0x123456 = some 0x0070E8 := by decide
theorem test_mdech_full_width : resultOf 0x4108 0xABCDEF = some 0xEE8EEF := by decide
theorem test_hto : resultOf 0x5105 0x19130C = some 0x1E0D06 := by decide
theorem test_hto_full_width : resultOf 0x5108 0x123456 = some 0x4C6170 := by decide
theorem test_hfrom : resultOf 0x6105 0x030218 = some 0x00021A := by decide
theorem test_hfrom_full_width : resultOf 0x6108 0x123456 = some 0x1E6921 := by decide
theorem test_decodeHilbert : resultOf 0x7105 0x6496C8 = some 0x6F52 := by decide +kernel
theorem test_decodeHilbert_negative : resultOf 0x7095 0xFFFFFF = some 0xFF80 := by decide +kernel
theorem test_decodeTriangle_falling : resultOf 0x7308 0x7F0102 = some 510 := by decide
theorem test_decodeTriangle_third : resultOf 0x7308 0x020A14 = some 619 := by decide
theorem test_decodeMorton : resultOf 0x7508 0x6496C8 = some 0x2390 := by decide
theorem test_decodeMorton_drops_bit_17 : resultOf 0x7508 0x200000 = some 0 := by decide
theorem test_decodePacked : resultOf 0x76D5 0xABCD00 = some 44648 := by decide
theorem test_decodePacked_narrow : resultOf 0x7691 0xFFFF00 = some 65408 := by decide
theorem test_decodeSplit_odd : resultOf 0x78D5 0xABCD00 = some 43408 := by decide
theorem test_decodeSplit_even : resultOf 0x7908 0x123400 = some 4660 := by decide
theorem test_decodePhase : resultOf 0x7B08 0x800100 = some 61450 := by decide
theorem test_decodePhase_clamps : resultOf 0x7B08 0xFF0100 = some 65535 := by decide
theorem test_decodeHue_wraps_red : resultOf 0x7CA8 0xFF00FF = some 54528 := by decide
theorem test_decodeHue_dark : resultOf 0x7D08 0x545555 = some 0 := by decide

/-- Cell (100, 150, 200) of section 8. -/
theorem test_build_cell :
    cellWritten (sweeping 0x8105 100 150 200 false) = some [some 0x6F#8, some 0x52#8, some 0#8] := by decide +kernel

/-- The tag of section 8 after the last cell, and the counter's wrap (R135). -/
theorem test_build_completes :
    (after (step (sweeping 0x8D08 254 254 254 true))).map (fun t => (t.run, t.tag.bits, t.progress)) =
      some (.done, 0x1D08#13, 0#24) := by decide

/-! ### Acceptance: section 7 of 95_test_vectors.md, and its state (P1) -/

theorem test_status_after_words :
    [0x0000, 0xFE00, 0x7E00, 0x8E00, 0x7705, 0x7105, 0x7111, 0x76A1, 0x3F08].map (statusAfter State.reset) =
      [0x1B, 0x1B, 0x13, 0x13, 0x0B, 0x01, 0x0B, 0x0B, 0x01].map some := by decide
theorem test_abort_when_idle : statusAfter State.reset 0x9FFF = some 0x00 := by decide
theorem test_abort_while_building :
    (after (step { sweeping 0x8105 0 0 1 false with agenda := [.hostWrite 1 0x9000] })).map State.abortReq =
      some true := by decide
theorem test_overrun : statusAfter (working 0x7708 0) 0x7708 = some 0x41 := by decide
theorem test_acceptance_latches :
    (after (step { pending [.hostWrite 1 0x7708] with operand := 0x123456 })).map
      (fun t => (t.latchedWord, t.actOpnd, t.result)) = some (0x7708#16, 0x123456#24, 0#24) := by decide

/-! ### Host accesses: section 9 of 95_test_vectors.md -/

theorem test_registers_after_reset : (List.range 6).map (registerRead State.reset) =
    List.replicate 6 (some (some 0#24)) := by decide
theorem test_write_keeps_24_bits :
    (after (step (pending [.hostWrite 0 0x1ABCDEF]))).map State.operand = some 0xABCDEF#24 := by decide
theorem test_status_is_read_only : (after (step (pending [.hostWrite 2 0xFF]))).map State.status = some 0#8 := by decide

/-! ### Every statement's hypotheses are met somewhere -/

theorem witness_StepRunsTheSubmittedCommand :
    (pending [.hostWrite 1 0x12105]).agenda = .hostWrite 1 0x12105 :: [] ∧
      decodeWord (BitVec.ofNat 16 0x12105) = .ok (.mench 0 16 5) := ⟨rfl, by decide⟩

/-- Both ways in which SEQ moves next. -/
theorem witness_StepRunsTheLatchedCommand :
    ((working 0x3F08 9).sequencerNext ∧ (working 0x3F08 9).run = .busy ∧
      (working 0x3F08 9).latchedWord = encode (.mdec 7 16 8)) ∧
    ({ working 0x3F08 9 with agenda := [.seq, .hostRead 2] } : State).sequencerNext :=
  ⟨⟨.inl rfl, rfl, by decide⟩, .inr ⟨_, rfl⟩⟩

theorem witness_PlacedWordIsTheNextCommand : decodeTableWord 16 0x9000 = some (.abort 0 0 0) := by decide

/-- Every branch of acceptance: two while BUSY, and ABORT, a rejection, a BUILD and another command otherwise. -/
theorem witness_SubmittedWordFollowsAcceptance :
    statusAfter (working 0x7105 0) 0x9000 = some 0x01 ∧ statusAfter (working 0x7105 0) 0x0000 = some 0x41 ∧
    statusAfter { State.reset with ovr := true } 0x9FFF = some 0x00 ∧ statusAfter State.reset 0xA000 = some 0x1B ∧
    statusAfter State.reset 0x8011 = some 0x01 ∧ statusAfter State.reset 0x1108 = some 0x01 := by decide

/-- For a BUILD and for another command, at the ends of the fields' ranges. -/
theorem witness_ValidCommandIsLatched :
    ((pending [.hostWrite 1 0x8C11]).cmdWritePending = true ∧ (pending [.hostWrite 1 0x8C11]).run ≠ .busy ∧
      Instr.wellFormed (.build 6 1 1) = true ∧ opField (encode (.build 6 1 1)) ≠ 0x9#4) ∧
    (Instr.wellFormed (.menc 7 16 8) = true ∧ opField (encode (.menc 7 16 8)) ≠ 0x9#4) := by decide

theorem witness_InvalidCommandIsRejected :
    ((pending [.hostWrite 1 0x8F08]).cmdWritePending = true ∧ (pending [.hostWrite 1 0x8F08]).run ≠ .busy ∧
      Instr.wellFormed (.build 7 16 8) = false) ∧
    Instr.wellFormed (.mdec 0 0 8) = false ∧ Instr.wellFormed (.mdec 0 17 8) = false := by decide

/-- `OP` 0x0, 0xA and 0xF, the ends of its two ranges. -/
theorem witness_ReservedOpcodeIsIllegalCommand :
    (pending [.hostWrite 1 0xFFFF]).agenda = .hostWrite 1 0xFFFF :: [] ∧ (pending [.hostWrite 1 0xFFFF]).run ≠ .busy ∧
      (0x0FFF / 4096 % 16 = 0 ∧ 10 ≤ 0xA000 / 4096 % 16 ∧ 10 ≤ 0xFFFF / 4096 % 16) := ⟨rfl, by decide, by decide⟩

/-- The four clauses: DECODE and BUILD with `SEL = 7`, another opcode with `SEL = 7`, ABORT, and two words that differ in
`SEL` alone. -/
theorem witness_UnknownAlgorithmIsRejected :
    ((pending [.hostWrite 1 0x7E00]).run ≠ .busy ∧ (0x7E00 / 4096 % 16 = 7 ∧ 0x7E00 / 512 % 8 = 7) ∧
      (0x8FFF / 4096 % 16 = 8 ∧ 0x8FFF / 512 % 8 = 7)) ∧
    (0x1E00 / 512 % 8 = 7 ∧ 0x1E00 / 4096 % 16 ≠ 9 ∧ (after (step (pending [.hostWrite 1 0x1E00]))).isSome) ∧
    (0x9E00 / 4096 % 16 = 9 ∧ (after (step (pending [.hostWrite 1 0x9E00]))).isSome) ∧
    (0x3F08 / 4096 % 16 = 0x3108 / 4096 % 16 ∧ 0x3F08 % 512 = 0x3108 % 512 ∧ 0x3F08 / 4096 % 16 ≠ 7 ∧
      0x3F08 / 4096 % 16 ≠ 8 ∧ statusAfter State.reset 0x3F08 = some 0x01) := by decide

theorem witness_BusyBlockDropsCommands :
    ({ working 0x7105 0 with agenda := [.hostWrite 1 0x0000] } : State).agenda = .hostWrite 1 0x0000 :: [] ∧
      (working 0x7105 0).run = .busy ∧ 0x0000 / 4096 % 16 ≠ 9 := ⟨rfl, rfl, by decide⟩

/-- A dropping write, and a write in another state that clears the flag. -/
theorem witness_OverrunIsSticky :
    (after (step { working 0x7105 0 with agenda := [.hostWrite 1 0x8105] })).map State.ovr = some true ∧
    (after (step { pending [.hostWrite 1 0x9000] with ovr := true })).map State.ovr = some false ∧
    (after (step { pending [.hostRead 2] with ovr := true })).map State.ovr = some true := by decide

theorem witness_AbortOnlyRequests :
    (pending [.hostWrite 1 0x9FFF]).cmdWritePending = true ∧
      ({ working 0x8105 0 with agenda := [.hostWrite 1 0x9FFF] } : State).cmdWritePending = true := ⟨rfl, rfl⟩

/-- The request is made, is kept by a cell's step, and ends with the build. -/
theorem witness_AbortRequestLifecycle :
    (after (step { working 0x8105 0 with agenda := [.hostWrite 1 0x9000] })).map State.abortReq = some true ∧
    (after (step (sweeping 0x8105 0 0 1 true))).map State.abortReq = some true ∧
    (after (step (sweeping 0x8105 0 1 0 true))).map State.abortReq = some false := by decide

theorem witness_MencSpreadsTheShiftedValue :
    (working 0x1F01 0xFFFFFF).running (.menc 7 16 1) ∧ (working 0x1011 0).running (.menc 0 1 1) :=
  ⟨⟨rfl, rfl, by decide, by decide⟩, rfl, rfl, by decide, by decide⟩

theorem witness_MenchSpreadsTheValue :
    (working 0x2108 0xFFFFFF).running (.mench 0 16 8) ∧ (working 0x2011 0).running (.mench 0 1 1) :=
  ⟨⟨rfl, rfl, by decide, by decide⟩, rfl, rfl, by decide, by decide⟩

theorem witness_MdecGathersSixBits :
    (working 0x3F08 0xFFFFFF).running (.mdec 7 16 8) ∧ (working 0x3011 0).running (.mdec 0 1 1) :=
  ⟨⟨rfl, rfl, by decide, by decide⟩, rfl, rfl, by decide, by decide⟩

theorem witness_MdechGathersAlgoBits :
    (working 0x4108 0xFFFFFF).running (.mdech 0 16 8) ∧ (working 0x4011 0).running (.mdech 0 1 1) :=
  ⟨⟨rfl, rfl, by decide, by decide⟩, rfl, rfl, by decide, by decide⟩

theorem witness_HtoCompletes :
    (working 0x5108 0xFFFFFF).running (.hto 0 16 8) ∧ (working 0x5011 0).running (.hto 0 1 1) :=
  ⟨⟨rfl, rfl, by decide, by decide⟩, rfl, rfl, by decide, by decide⟩

theorem witness_HfromCompletes :
    (working 0x6108 0xFFFFFF).running (.hfrom 0 16 8) ∧ (working 0x6011 0).running (.hfrom 0 1 1) :=
  ⟨⟨rfl, rfl, by decide, by decide⟩, rfl, rfl, by decide, by decide⟩

theorem witness_DecodeHilbertInterpolates :
    (working 0x7108 0xFFFFFF).running (.decodeHilbert 16 8) ∧ (working 0x7011 0).running (.decodeHilbert 1 1) :=
  ⟨⟨rfl, rfl, by decide, by decide⟩, rfl, rfl, by decide, by decide⟩

theorem witness_DecodeMortonInterleavesChannels :
    (working 0x7508 0xFFFFFF).running (.decodeMorton 16 8) ∧ (working 0x7411 0).running (.decodeMorton 1 1) :=
  ⟨⟨rfl, rfl, by decide, by decide⟩, rfl, rfl, by decide, by decide⟩

theorem witness_DecodePackedJoinsTheParts :
    (working 0x7708 0xFFFFFF).running (.decodePacked 16 8) ∧ (working 0x7691 0).running (.decodePacked 9 1) :=
  ⟨⟨rfl, rfl, by decide, by decide⟩, rfl, rfl, by decide, by decide⟩

theorem witness_DecodeSplitReflectsOddRows :
    (working 0x7908 0xFFFFFF).running (.decodeSplit 16 8) ∧ (working 0x7811 0).running (.decodeSplit 1 1) :=
  ⟨⟨rfl, rfl, by decide, by decide⟩, rfl, rfl, by decide, by decide⟩

theorem witness_DecodeTriangleIsTheRationalFormula :
    (working 0x7308 0xFFFFFF).running (.decodeTriangle 16 8) ∧ (working 0x7211 0).running (.decodeTriangle 1 1) :=
  ⟨⟨rfl, rfl, by decide, by decide⟩, rfl, rfl, by decide, by decide⟩

theorem witness_DecodePhaseUnwrapsAndClamps :
    (working 0x7B08 0xFFFFFF).running (.decodePhase 16 8) ∧ (working 0x7A11 0).running (.decodePhase 1 1) :=
  ⟨⟨rfl, rfl, by decide, by decide⟩, rfl, rfl, by decide, by decide⟩

theorem witness_DecodeHueRescalesTheSextants :
    (working 0x7D08 0xFFFFFF).running (.decodeHue 16 8) ∧ (working 0x7C11 0).running (.decodeHue 1 1) :=
  ⟨⟨rfl, rfl, by decide, by decide⟩, rfl, rfl, by decide, by decide⟩

/-- The second clause: three axes at the top of their range. -/
theorem witness_InterleaveIsABijection :
    let c : Axes := { x := 255, y := 0, z := 255 }
    c.x < 2 ^ 8 ∧ c.y < 2 ^ 8 ∧ c.z < 2 ^ 8 := by decide

theorem witness_FixedModeRoundTrip : (1 ≤ 16 ∧ 16 ≤ 16 ∧ 65535 < 2 ^ 16) ∧ (1 ≤ 1 ∧ 1 ≤ 16 ∧ 1 < 2 ^ 1) := by decide

theorem witness_HilbertTransformsAreInverse :
    let c : Axes := { x := 255, y := 128, z := 0 }
    let e : Axes := { x := 1, y := 0, z := 1 }
    (1 ≤ 8 ∧ 8 ≤ 8 ∧ c.x < 2 ^ 8 ∧ c.y < 2 ^ 8 ∧ c.z < 2 ^ 8) ∧ (1 ≤ 1 ∧ 1 ≤ 8 ∧ e.x < 2 ^ 1 ∧ e.y < 2 ^ 1 ∧ e.z < 2 ^ 1) := by
  decide

theorem witness_HilbertAxesStayInRange : (1 ≤ 1 ∧ 1 ≤ 8) ∧ (1 ≤ 8 ∧ 8 ≤ 8) := by decide

theorem witness_HilbertCurveEnds :
    ((1 ≤ 1 ∧ 1 ≤ 8) ∧ (1 ≤ 8 ∧ 8 ≤ 8)) ∧ (8 = 2 ∨ 8 = 5 ∨ 8 = 8) ∧ (6 = 3 ∨ 6 = 6) ∧ (7 = 4 ∨ 7 = 7) := by decide

theorem witness_HilbertCurveIsContinuous :
    (1 ≤ 8 ∧ 8 ≤ 8 ∧ 16777214 + 1 < 2 ^ (3 * 8)) ∧ (1 ≤ 1 ∧ 1 ≤ 8 ∧ 6 + 1 < 2 ^ (3 * 1)) := by decide

theorem witness_HilbertGridColoursAreEvenlySpaced :
    (1 ≤ 8 ∧ 8 ≤ 8 ∧ 8 ≤ 16 ∧ 16 ≤ 16 ∧ 16777215 < 2 ^ (3 * 8)) ∧ (1 ≤ 1 ∧ 1 ≤ 8 ∧ 1 ≤ 1 ∧ 1 ≤ 16 ∧ 7 < 2 ^ (3 * 1)) := by
  decide

theorem witness_SplitIsContinuousAcrossRows :
    (1 ≤ 8 ∧ 8 ≤ 8 ∧ 8 ≤ 16 ∧ 16 ≤ 16 ∧ 16 - 8 ≤ 8 ∧ 254 + 1 < 2 ^ 8) ∧
    (1 ≤ 1 ∧ 1 ≤ 8 ∧ 1 ≤ 9 ∧ 9 ≤ 16 ∧ 9 - 1 ≤ 8 ∧ 0 + 1 < 2 ^ 1) := by decide

/-- The last cell but one, and the first cell. -/
theorem witness_BuildStepWritesOneCell :
    ((sweeping 0x8D08 254 254 253 true).running (.build 6 16 8) ∧ algorithmOf 6 = some .hue ∧
      ¬((sweeping 0x8D08 254 254 253 true).abortReq = true ∧ (sweeping 0x8D08 254 254 253 true).k = 0) ∧
      cellNumber 254 254 253 < 16581374) ∧
    ((sweeping 0x8011 0 0 0 false).running (.build 0 1 1) ∧ algorithmOf 0 = some .hilbert ∧
      ¬((sweeping 0x8011 0 0 0 false).abortReq = true ∧ (sweeping 0x8011 0 0 0 false).k = 0)) :=
  ⟨⟨⟨rfl, rfl, by decide, by decide⟩, rfl, by decide, by decide⟩, ⟨rfl, rfl, by decide, by decide⟩, rfl, by decide⟩

theorem witness_BuildLastStepCompletes :
    (sweeping 0x8D08 254 254 254 true).running (.build 6 16 8) ∧ algorithmOf 6 = some .hue ∧
      (sweeping 0x8D08 254 254 254 true).i = 254#8 ∧ (sweeping 0x8D08 254 254 254 true).j = 254#8 ∧
      (sweeping 0x8D08 254 254 254 true).k = 254#8 := ⟨⟨rfl, rfl, by decide, by decide⟩, rfl, rfl, rfl, rfl⟩

theorem witness_BuildStepTakesTheAbort :
    (sweeping 0x8708 0 2 0 true).running (.build 3 16 8) ∧ (sweeping 0x8708 0 2 0 true).abortReq = true ∧
      (sweeping 0x8708 0 2 0 true).k = 0 := ⟨⟨rfl, rfl, by decide, by decide⟩, rfl, rfl⟩

theorem witness_BuildFillsTheTable :
    (pending [.hostWrite 1 0x8108]).run ≠ .busy ∧ (pending [.hostWrite 1 0x8108]).agenda = [.hostWrite 1 0x8108] ∧
      decodeWord (BitVec.ofNat 16 0x8108) = .ok (.build 0 16 8) ∧ Instr.wellFormed (.build 0 16 8) = true ∧
      algorithmOf 0 = some .hilbert := ⟨by decide, rfl, by decide, by decide, rfl⟩

/-- The first row at its second cell, the first one written. -/
def afterFirstCell : State :=
  { sweeping 0x8708 0 0 1 true with tbl := [(0, 0#8), (1, 0#8), (2, 0#8)] }

/-- The last row but one at its last cell, and the first row at its second with the cell before it swept. -/
theorem witness_AbortStopsAtTheRowBoundary :
    ((sweeping 0x8108 254 253 254 true).running (.build 0 16 8) ∧ algorithmOf 0 = some .hilbert ∧
      (sweeping 0x8108 254 253 254 true).agenda = [] ∧ (sweeping 0x8108 254 253 254 true).abortReq = true ∧
      (254#8).toNat ≤ 254 ∧ 0 < (254#8).toNat ∧ (253#8).toNat < 254) ∧
    (afterFirstCell.running (.build 3 16 8) ∧ algorithmOf 3 = some .packed ∧ afterFirstCell.agenda = [] ∧
      0 < afterFirstCell.k.toNat ∧ sweptBelow afterFirstCell.tbl .packed 16 8 (cellNumber 0 0 1)) := by
  refine ⟨⟨⟨rfl, rfl, by decide, by decide⟩, rfl, rfl, rfl, by decide, by decide, by decide⟩,
    ⟨rfl, rfl, by decide, by decide⟩, rfl, rfl, by decide, fun i j k _ _ _ h => ?_⟩
  obtain ⟨rfl, rfl, rfl⟩ : i = 0 ∧ j = 0 ∧ k = 0 := by unfold cellNumber at h; omega
  exact ⟨by decide, by decide, by decide⟩

theorem witness_AbortInTheLastRowIsLost :
    (sweeping 0x8108 254 254 1 true).running (.build 0 16 8) ∧ (sweeping 0x8108 254 254 1 true).agenda = [] ∧
      (sweeping 0x8108 254 254 1 true).abortReq = true ∧ (sweeping 0x8108 254 254 1 true).i = 254#8 ∧
      (sweeping 0x8108 254 254 1 true).j = 254#8 ∧ 0 < (1#8).toNat ∧ (1#8).toNat ≤ 254 :=
  ⟨⟨rfl, rfl, by decide, by decide⟩, rfl, rfl, rfl, rfl, by decide, by decide⟩

theorem witness_CellAgreesWithSingleDecode :
    (sweeping 0x8105 100 150 200 false).running (.build 0 16 5) ∧ algorithmOf 0 = some .hilbert ∧
      (working 0x7105 0x6496C8).running (decodeCommand .hilbert 16 5) ∧
      ¬((sweeping 0x8105 100 150 200 false).abortReq = true ∧ (sweeping 0x8105 100 150 200 false).k = 0) ∧
      (working 0x7105 0x6496C8).actOpnd.toNat = (100#8).toNat * 65536 + (150#8).toNat * 256 + (200#8).toNat :=
  ⟨⟨rfl, rfl, by decide, by decide⟩, rfl, ⟨rfl, rfl, by decide, by decide⟩, by decide, by decide⟩

/-- A BUILD that has just been accepted: the invariant holds, and the step writes a cell. -/
theorem witness_InvariantIsKeptByEveryStep :
    (sweeping 0x8105 0 0 0 false).Inv ∧ ∃ t, step (sweeping 0x8105 0 0 0 false) = .next t :=
  ⟨{ errExactlyInError := by decide
     countersInRange := by decide
     latchesAccepted := by decide
     abortReqOnlyWhileBusy := by decide
     abortedAtRowBoundary := by decide
     memoryWf := rfl
     invalidWhileBuilding := by decide
     sweptSoFar := fun _ _ _ i j k _ _ _ h => absurd h (Nat.not_lt_zero _)
     validTagIsTrue := fun h => absurd h (by decide) }, _, rfl⟩

/-- The four clauses: a step, and the three accesses that do not exist, each at the first number that is none. -/
theorem witness_OnlyMissingAccessesStopTheBlock :
    (sweeping 0x8105 0 0 0 false).Inv ∧
    step (pending [.hostRead 6]) = .refused (.noSuchRegister 6) ∧
    step (pending [.hostWrite 6 0]) = .refused (.noSuchRegister 6) ∧
    step (pending [.tblRead 49744125]) = .refused (.noSuchTableByte 49744125) :=
  ⟨witness_InvariantIsKeptByEveryStep.1, rfl, rfl, rfl⟩

/-- The three clauses: no latch moves, a command is latched, a reset. -/
theorem witness_LatchesChangeOnlyAtAcceptance :
    (after (step (working 0x7708 9))).map State.latchedWord = some 0x7708#16 ∧
    (after (step (pending [.hostWrite 1 0x7708]))).map State.latchedWord = some 0x7708#16 ∧
    (after (step { working 0x7708 9 with agenda := [.reset] })).map State.latchedWord = some 0#16 := by decide

/-- The three clauses: a completion, a rejection and a reset that change `RESULT`. -/
theorem witness_ResultChangesOnlyAtCompletion :
    (after (step (working 0x7708 0x123456))).map State.result = some 0x1234#24 ∧
    (after (step { pending [.hostWrite 1 0x0000] with result := 7 })).map State.result = some 0#24 ∧
    (after (step { pending [.reset] with result := 7 })).map State.result = some 0#24 := by decide

theorem witness_OnlyBuildStepsWriteTheTable :
    (after (step (working 0x7708 0x123456))).map State.tbl = some [] ∧
    (after (step (sweeping 0x8708 0 1 0 false))).map State.tbl = some [(765, 0#8), (766, 1#8), (767, 0#8)] := by decide

theorem witness_OnlyTheHostWritesOperand :
    (after (step (pending [.hostWrite 0 0xFFFFFFFF]))).map State.operand = some 0xFFFFFF#24 ∧
    (after (step { pending [.reset] with operand := 9 })).map State.operand = some 0#24 ∧
    (after (step (working 0x7708 9))).map State.operand = some 5#24 := by decide

/-- Every kind of transition: acceptance, rejection, completion, abort, reset. -/
theorem witness_StateMachineOfTheBlock :
    (after (step (pending [.hostWrite 1 0x7708]))).map State.run = some .busy ∧
    (after (step (pending [.hostWrite 1 0]))).map State.run = some .error ∧
    (after (step (working 0x7708 9))).map State.run = some .done ∧
    (after (step (sweeping 0x8708 0 2 0 true))).map State.run = some .aborted ∧
    (after (step { working 0x7708 9 with agenda := [.reset] })).map State.run = some .idle := by decide

theorem witness_TagAndCounterFollowBuilds :
    (after (step (pending [.hostWrite 1 0x8708]))).map (fun t => (t.tag.valid, t.progress)) = some (false, 0#24) ∧
    (after (step (sweeping 0x8708 0 2 254 false))).map State.progress = some 0x000300#24 ∧
    (after (step (sweeping 0x8708 254 254 254 false))).map (fun t => t.tag.bits) = some 0x1708#13 := by decide

theorem witness_ResultDependsOnTheLatchesOnly :
    (working 0x7708 9).running (.decodePacked 16 8) ∧
    ({ working 0x7708 9 with operand := 77, tbl := [(3, 1)], ovr := true } : State).running (.decodePacked 16 8) ∧
    opField (encode (.decodePacked 16 8)) ≠ 0x8#4 ∧ opField (encode (.decodePacked 16 8)) ≠ 0x9#4 :=
  ⟨⟨rfl, rfl, by decide, by decide⟩, ⟨rfl, rfl, by decide, by decide⟩, by decide, by decide⟩

/-- SEQ when not BUSY, with and without a pending move; BUSY with each kind of latches that no acceptance wrote. -/
theorem witness_SequencerMovesOnlyAcceptedCommands :
    ((pending [.seq]).sequencerNext ∧ State.reset.sequencerNext ∧ (pending [.seq]).run ≠ .busy) ∧
    ((working 0x7708 9).cmdWritePending = false ∧ (working 0x7708 9).latchedWord ≠ encode (.decodePacked 16 7)) ∧
    Instr.wellFormed (.menc 0 0 0) = false ∧ opField (encode (.abort 0 0 0)) = 0x9#4 :=
  ⟨⟨.inr ⟨_, rfl⟩, .inl rfl, by decide⟩, ⟨rfl, by decide⟩, rfl, rfl⟩

/-- Each register in a state where it holds something, and the first number that is none. -/
theorem witness_HostReadReturnsTheRegister :
    registerRead (working 0x7708 9) 0 = some (some 5#24) ∧ registerRead (working 0x7708 9) 1 = some (some 0#24) ∧
    registerRead { working 0x7708 9 with ovr := true } 2 = some (some 0x41#24) ∧
    registerRead { State.reset with result := 7 } 3 = some (some 7#24) ∧
    registerRead (sweeping 0x8708 1 2 3 false) 4 = some (some 0x010203#24) ∧
    registerRead { State.reset with tag := { valid := true, algo := 3, q := 16, ab := 8 } } 5 =
      some (some 0x1708#24) ∧
    registerRead State.reset 6 = none := by decide

theorem witness_HostWriteStoresOrIsIgnored :
    step (pending [.hostWrite 0 0x1ABCDEF]) = .next { State.reset with operand := 0xABCDEF } ∧
    step (pending [.hostWrite 2 1]) = .next State.reset ∧ step (pending [.hostWrite 5 1]) = .next State.reset ∧
    step (pending [.hostWrite 6 1]) = .refused (.noSuchRegister 6) := ⟨rfl, rfl, rfl, rfl⟩

/-- The three bytes of a built cell, the last address unwritten, one address beyond it, and a read while a BUILD is
BUSY. -/
theorem witness_TableReadReturnsAByte :
    let built : State := { State.reset with tbl := [(196614, 1#8), (196615, 2#8), (196616, 0#8)] }
    cellHolds built.tbl .packed 16 8 1 2 3 ∧ cellBase 1 2 3 = 196614 ∧
    (after (step { built with agenda := [.tblRead 196615] })).map State.reply = some (some 2#24) ∧
    (State.reset.tbl.stored 49744124 = none ∧ (after (step (pending [.tblRead 49744124]))).isSome) ∧
    (after (step (pending [.tblRead 49744125]))).isNone ∧
    (after (step { sweeping 0x8708 0 2 0 false with agenda := [.tblRead 0] })).map State.freeCount = some 1 :=
  ⟨⟨by decide, by decide, by decide⟩, rfl, rfl, ⟨rfl, rfl⟩, rfl, rfl⟩

theorem witness_ResetClearsRegistersAndKeepsTheTable :
    (after (step { sweeping 0x8708 1 2 3 true with agenda := [.reset], tbl := [(3, 0xAB#8)] })).map
      (fun t => (t.run, t.progress, t.actQ, t.tbl)) = some (.idle, 0#24, 0#5, [(3, 0xAB#8)]) := by decide

end Sys2Proof.Tests
end

section
/-! PROOFS. The statements of 00_scope.md: SEQ's move and the command that the latches hold. -/

namespace Sys2Proof.Machine

/-! ### The latches and the command they hold -/

/-- Decoding gives back every command (R61 to R63). -/
theorem decodeWord_encode (c : Instr) : decodeWord (encode c) = .ok c := by
  cases c <;> simp [encode, decodeWord, decodeLane]

/-- The check of a command's word agrees with its well-formedness, whatever the command (R151 to R153). -/
theorem checkAgrees (c : Instr) : Laws.CheckAgrees.Statement c := by
  cases c with
  | menc sel q ab => exact Laws.CheckAgrees.menc sel q ab
  | mench sel q ab => exact Laws.CheckAgrees.mench sel q ab
  | mdec sel q ab => exact Laws.CheckAgrees.mdec sel q ab
  | mdech sel q ab => exact Laws.CheckAgrees.mdech sel q ab
  | hto sel q ab => exact Laws.CheckAgrees.hto sel q ab
  | hfrom sel q ab => exact Laws.CheckAgrees.hfrom sel q ab
  | decodeHilbert q ab => exact Laws.CheckAgrees.decodeHilbert q ab
  | decodeTriangle q ab => exact Laws.CheckAgrees.decodeTriangle q ab
  | decodeMorton q ab => exact Laws.CheckAgrees.decodeMorton q ab
  | decodePacked q ab => exact Laws.CheckAgrees.decodePacked q ab
  | decodeSplit q ab => exact Laws.CheckAgrees.decodeSplit q ab
  | decodePhase q ab => exact Laws.CheckAgrees.decodePhase q ab
  | decodeHue q ab => exact Laws.CheckAgrees.decodeHue q ab
  | build sel q ab => exact Laws.CheckAgrees.build sel q ab
  | abort sel q ab => exact Laws.CheckAgrees.abort sel q ab

/-- Acceptance lets exactly the well-formed commands through (R73, R151). -/
theorem check_encode_eq_none_iff (c : Instr) (notAbort : opField (encode c) ≠ 0x9#4) :
    check (opField (encode c)) (selField (encode c)) (qField (encode c)) (abField (encode c)) = .none ↔
      c.wellFormed = true := by
  rw [checkAgrees c notAbort]
  split_ifs <;> simp_all

theorem latchedWord_eq_iff (s : State) (w : Word) :
    s.latchedWord = w ↔
      s.actOp = opField w ∧ s.actSel = selField w ∧ s.actQ = qField w ∧ s.actAb = abField w := by
  constructor
  · rintro rfl
    simp [State.latchedWord]
  · rintro ⟨hop, hsel, hq, hab⟩
    rw [State.latchedWord, hop, hsel, hq, hab, commandWord_fields]

/-- What SEQ asks of the latches before it runs a command's rule, said of the command (R23, R24). -/
theorem latched_encode_iff (c : Instr) (s : State) :
    s.latched (opField (encode c)) (selField (encode c)) (qField (encode c)) (abField (encode c)) = true ↔
      s.latchedWord = encode c ∧ opField (encode c) ≠ 0x9#4 ∧ c.wellFormed = true := by
  rw [latched_iff, latchedWord_eq_iff]
  constructor
  · rintro ⟨hop, hsel, hq, hab, notAbort, accepted⟩
    exact ⟨⟨hop, hsel, hq, hab⟩, notAbort, (check_encode_eq_none_iff c notAbort).mp accepted⟩
  · rintro ⟨⟨hop, hsel, hq, hab⟩, notAbort, wellFormed⟩
    exact ⟨hop, hsel, hq, hab, notAbort, (check_encode_eq_none_iff c notAbort).mpr wellFormed⟩

/-! ### A command's meaning in SEQ's turn -/

/-- SEQ's step of a running command is the command's own rule (R131, R134). -/
theorem exec_of_running (c : Instr) (s : State) (running : s.running c) (notAbort : opField (encode c) ≠ 0x9#4) :
    exec c s = ruleOf c s.yield := by
  obtain ⟨noWrite, busy, word, wellFormed⟩ := running
  have latched := (latched_encode_iff c s).mpr ⟨word, notAbort, wellFormed⟩
  rw [exec_eq, command_sequenced _ _ _ _ _ _ noWrite, seqStep, if_pos busy, if_pos latched]

/-- SEQ has no step of a command that the latches do not hold as accepted (notes/assumptions/7.md). -/
theorem exec_of_not_latched (c : Instr) (s : State) (noWrite : s.cmdWritePending = false) (busy : s.run = .busy)
    (notHeld : ¬ (s.latchedWord = encode c ∧ opField (encode c) ≠ 0x9#4 ∧ c.wellFormed = true)) :
    exec c s = .fault .noSequencerStep := by
  rw [← latched_encode_iff] at notHeld
  rw [exec_eq, command_sequenced _ _ _ _ _ _ noWrite, seqStep, if_pos busy, if_neg notHeld]

/-- The rule of a command other than BUILD and ABORT computes a result from the latched operand, `quantization` and
`algoBits` (R23, R131). -/
theorem ruleOf_eq_singleResult (c : Instr) (notBuild : opField (encode c) ≠ 0x8#4)
    (notAbort : opField (encode c) ≠ 0x9#4) : ∃ f, ruleOf c = singleResult f := by
  cases c with
  | build sel q ab => exact absurd (opField_commandWord 0x8#4 sel q ab) notBuild
  | abort sel q ab => exact absurd (opField_commandWord 0x9#4 sel q ab) notAbort
  | _ => simp only [ruleOf]; exact ⟨_, rfl⟩

/-- A running single-result command completes with a function of the latched operand that the command alone fixes
(R9, R23): the latched `quantization` and `algoBits` are the command's own. -/
theorem exec_single_of_running (c : Instr) (notBuild : opField (encode c) ≠ 0x8#4)
    (notAbort : opField (encode c) ≠ 0x9#4) :
    ∃ g : Word24 → Word24, ∀ s : State, s.running c → exec c s = .next (s.yield.complete (g s.actOpnd)) := by
  obtain ⟨f, rule⟩ := ruleOf_eq_singleResult c notBuild notAbort
  refine ⟨fun opnd => f opnd (qField (encode c)).toNat (abField (encode c)).toNat, fun s running => ?_⟩
  rw [exec_of_running c s running notAbort, rule]
  obtain ⟨-, -, word, -⟩ := running
  obtain ⟨-, -, hq, hab⟩ := (latchedWord_eq_iff s (encode c)).mp word
  simp [singleResult, hq, hab]

/-! ### SEQ's move -/

/-- When SEQ moves next, the step is its move (R8). -/
theorem step_of_sequencerNext (s : State) (turn : s.sequencerNext) : step s = sequencerMove s := by
  obtain hnil | ⟨rest, hseq⟩ := turn
  · simp [step, nextAction, hnil]
  · simp [step, nextAction, hseq]

/-- When SEQ moves next, its move takes the head of the agenda, if there is one (notes/assumptions/1.md). -/
theorem yield_of_sequencerNext (s : State) (turn : s.sequencerNext) :
    s.yield = { s with agenda := s.agenda.tail } := by
  rw [State.yield_eq]
  obtain hnil | ⟨rest, hseq⟩ := turn
  · rw [State.yield_agenda_nil s hnil, hnil, List.tail_nil]
  · rw [State.yield_agenda_seq s rest hseq, hseq, List.tail_cons]

/-- While BUSY, SEQ's move is the meaning of the command whose word is latched (R8, R23). -/
theorem sequencerMove_of_busy (s : State) (c : Instr) (busy : s.run = .busy) (word : s.latchedWord = encode c) :
    sequencerMove s = exec c s := by
  simp [sequencerMove, busy, word, decodeWord_encode]

/-- SEQ is inert in a state other than BUSY (R164). -/
theorem sequencerMove_of_not_busy (s : State) (idle : s.run ≠ .busy) : sequencerMove s = .next s.yield := by
  simp [sequencerMove, idle]

/-! ### The statements -/

/-- Settles O5: the latched word decodes to the command it encodes. -/
theorem stepRunsTheLatchedCommand : Obligations.StepRunsTheLatchedCommand := by
  intro s c turn busy word
  rw [step_of_sequencerNext s turn, sequencerMove_of_busy s c busy word]

/-- Settles O54: both states complete with the one function that the command fixes, of the one latched operand. -/
theorem resultDependsOnTheLatchesOnly : Obligations.ResultDependsOnTheLatchesOnly := by
  intro c s u runningS runningU sameOperand notBuild notAbort
  obtain ⟨g, completes⟩ := exec_single_of_running c notBuild notAbort
  refine ⟨_, _, completes s runningS, completes u runningU, ?_⟩
  rw [State.complete_result, State.complete_result, sameOperand]

/-- Settles O55: the first clause is SEQ's inert move, the second the stop on latches that no acceptance wrote. -/
theorem sequencerMovesOnlyAcceptedCommands : Obligations.SequencerMovesOnlyAcceptedCommands := by
  constructor
  · intro s turn idle
    rw [step_of_sequencerNext s turn, sequencerMove_of_not_busy s idle, yield_of_sequencerNext s turn]
  · intro c s noWrite busy cause
    apply exec_of_not_latched c s noWrite busy
    rintro ⟨word, notAbort, wellFormed⟩
    rcases cause with otherWord | illFormed | abort
    · exact otherWord word
    · simp [wellFormed] at illFormed
    · exact notAbort abort

end Sys2Proof.Machine
end

section
/-! PROOFS. The statements of 10_state.md: what each action does to the registers, and the invariant of the block. -/

namespace Sys2Proof.Machine

/-! ### What the host does next -/

/-- The host's next action is a write to register `n`. -/
def State.writeNext (s : State) (n : Nat) : Prop := ∃ v rest, s.agenda = .hostWrite n v :: rest

/-- The next action is a reset. -/
def State.resetNext (s : State) : Prop := ∃ rest, s.agenda = .reset :: rest

/-- Where SEQ moves next, the host writes no register (R8). -/
theorem not_writeNext_of_sequencerNext (s : State) (n : Nat) (turn : s.sequencerNext) : ¬ s.writeNext n := by
  rintro ⟨v, rest, head⟩
  obtain hnil | ⟨rest', hseq⟩ := turn <;> simp_all

/-- Where SEQ moves next, no reset is asserted (R8). -/
theorem not_resetNext_of_sequencerNext (s : State) (turn : s.sequencerNext) : ¬ s.resetNext := by
  rintro ⟨rest, head⟩
  obtain hnil | ⟨rest', hseq⟩ := turn <;> simp_all

theorem not_writeNext_of_head {s : State} {action : AgentAction} {rest : List AgentAction} {n : Nat}
    (head : s.agenda = action :: rest) (other : ∀ v, action ≠ .hostWrite n v) : ¬ s.writeNext n := by
  rintro ⟨v, rest', head'⟩
  rw [head, List.cons.injEq] at head'
  exact other v head'.1

theorem not_resetNext_of_head {s : State} {action : AgentAction} {rest : List AgentAction}
    (head : s.agenda = action :: rest) (other : action ≠ .reset) : ¬ s.resetNext := by
  rintro ⟨rest', head'⟩
  rw [head, List.cons.injEq] at head'
  exact other head'.1

theorem consume_of_head (s : State) (action : AgentAction) (rest : List AgentAction) (head : s.agenda = action :: rest) :
    s.consume = { s with agenda := rest } := by
  simp [State.consume, head]

theorem cmdWritePending_of_head (s : State) (v : Nat) (rest : List AgentAction)
    (head : s.agenda = .hostWrite 1 v :: rest) : s.cmdWritePending = true := by
  simp [State.cmdWritePending, head]

/-! ### A step at each kind of host action -/

theorem step_of_hostRead (s : State) (n : Nat) (rest : List AgentAction) (head : s.agenda = .hostRead n :: rest) :
    step s = readRegister n s := by
  simp [step, nextAction, head]

theorem step_of_hostWrite (s : State) (n v : Nat) (rest : List AgentAction)
    (head : s.agenda = .hostWrite n v :: rest) : step s = writeRegister n v s := by
  simp [step, nextAction, head]

theorem step_of_reset (s : State) (rest : List AgentAction) (head : s.agenda = .reset :: rest) :
    step s = .next s.consume.resetBlock := by
  simp [step, nextAction, head]

/-! ### A submitted word -/

/-- `Check(w)`, on the whole word (R151). -/
def checkWord (w : Word) : ErrCode := check (opField w) (selField w) (qField w) (abField w)

/-- What acceptance does for every command it lets through (R24, R73). -/
def State.capture (w : Word) (s : State) : State :=
  (s.clearOvr.latch (opField w) (selField w) (qField w) (abField w)).leaveError

/-- The opcode of the word that the host writes as the number `v` (R13, R61). -/
theorem opField_ofNat_toNat (v : Nat) : (opField (BitVec.ofNat 16 v)).toNat = v / 4096 % 16 := by
  simp only [opField, BitVec.extractLsb'_toNat, BitVec.toNat_ofNat, Nat.shiftRight_eq_div_pow]
  omega

/-- ABORT's opcode, in the word and in the number the host writes (R13, R62). -/
theorem opField_ofNat_eq_abort_iff (v : Nat) : opField (BitVec.ofNat 16 v) = 0x9#4 ↔ v / 4096 % 16 = 9 := by
  rw [← opField_ofNat_toNat]
  exact BitVec.toNat_inj.symm

@[simp] theorem capture_latchedWord (w : Word) (s : State) : (s.capture w).latchedWord = w :=
  commandWord_fields w

/-! ### What one step does to the block -/

/-- The depth of the cell that a BUILD writes next (R134). -/
def State.cellDepth (algo : AlgorithmId) (s : State) : Depth :=
  decodeColour algo s.i.toNat s.j.toNat s.k.toNat s.actQ.toNat s.actAb.toNat

theorem yield_cellDepth (algo : AlgorithmId) (s : State) : s.yield.cellDepth algo = s.cellDepth algo := by
  simp [State.cellDepth]

theorem yield_atLastCell (s : State) : s.yield.atLastCell = s.atLastCell := by
  simp [State.atLastCell]

/-- What a step that goes on does to the block (R8, R10): the accesses that leave every register alone are one case,
and a submitted word has one for each outcome of acceptance (R73). -/
inductive BlockStep (s : State) : State → Prop where
  | quiet (agenda : List AgentAction) (reply : Option Word24) (freeCount : Nat) (noCommand : ¬ s.writeNext 1)
      (noReset : ¬ s.resetNext) :
      BlockStep s { s with agenda := agenda, reply := reply, freeCount := freeCount }
  | operandWritten (v : Nat) (rest : List AgentAction) (head : s.agenda = .hostWrite 0 v :: rest) :
      BlockStep s (s.consume.setOperand v)
  | commandDropped (v : Nat) (rest : List AgentAction) (head : s.agenda = .hostWrite 1 v :: rest) (busy : s.run = .busy)
      (notAbort : opField (BitVec.ofNat 16 v) ≠ 0x9#4) : BlockStep s s.consume.raiseOvr
  | abortRequested (v : Nat) (rest : List AgentAction) (head : s.agenda = .hostWrite 1 v :: rest) (busy : s.run = .busy)
      (abort : opField (BitVec.ofNat 16 v) = 0x9#4) : BlockStep s s.consume.requestAbort
  | abortIgnored (v : Nat) (rest : List AgentAction) (head : s.agenda = .hostWrite 1 v :: rest) (idle : s.run ≠ .busy)
      (abort : opField (BitVec.ofNat 16 v) = 0x9#4) : BlockStep s s.consume.clearOvr
  | buildAccepted (v : Nat) (rest : List AgentAction) (head : s.agenda = .hostWrite 1 v :: rest) (idle : s.run ≠ .busy)
      (notAbort : opField (BitVec.ofNat 16 v) ≠ 0x9#4) (passed : checkWord (BitVec.ofNat 16 v) = .none)
      (build : opField (BitVec.ofNat 16 v) = 0x8#4) : BlockStep s (s.consume.capture (BitVec.ofNat 16 v)).startSweep
  | singleAccepted (v : Nat) (rest : List AgentAction) (head : s.agenda = .hostWrite 1 v :: rest) (idle : s.run ≠ .busy)
      (notAbort : opField (BitVec.ofNat 16 v) ≠ 0x9#4) (passed : checkWord (BitVec.ofNat 16 v) = .none)
      (notBuild : opField (BitVec.ofNat 16 v) ≠ 0x8#4) : BlockStep s (s.consume.capture (BitVec.ofNat 16 v))
  | rejected (v : Nat) (rest : List AgentAction) (head : s.agenda = .hostWrite 1 v :: rest) (idle : s.run ≠ .busy)
      (failed : checkWord (BitVec.ofNat 16 v) ≠ .none) :
      BlockStep s (s.consume.clearOvr.errorEntry (checkWord (BitVec.ofNat 16 v)))
  | reset (rest : List AgentAction) (head : s.agenda = .reset :: rest) : BlockStep s s.consume.resetBlock
  | completed (r : Word24) (turn : s.sequencerNext) (busy : s.run = .busy) (notBuild : s.actOp ≠ 0x8#4) :
      BlockStep s (s.yield.complete r)
  | buildStopped (turn : s.sequencerNext) (busy : s.run = .busy) (build : s.actOp = 0x8#4) (rowStart : s.k = 0) :
      BlockStep s s.yield.stopBuild
  | cellWritten (algo : AlgorithmId) (turn : s.sequencerNext) (busy : s.run = .busy) (build : s.actOp = 0x8#4)
      (algorithm : algorithmOf s.actSel = some algo) (notLast : s.atLastCell = false) :
      BlockStep s (s.yield.writeCell (s.cellDepth algo)).advance
  | buildFinished (algo : AlgorithmId) (turn : s.sequencerNext) (busy : s.run = .busy) (build : s.actOp = 0x8#4)
      (algorithm : algorithmOf s.actSel = some algo) (last : s.atLastCell = true) :
      BlockStep s (s.yield.writeCell (s.cellDepth algo)).advance.finishBuild

/-- A submitted word, by the outcome of acceptance (R73). -/
theorem blockStep_of_submit (s : State) (v : Nat) (rest : List AgentAction)
    (head : s.agenda = .hostWrite 1 v :: rest) :
    BlockStep s (accept (opField (BitVec.ofNat 16 v)) (selField (BitVec.ofNat 16 v)) (qField (BitVec.ofNat 16 v))
      (abField (BitVec.ofNat 16 v)) s.consume) := by
  rcases accept_cases (opField (BitVec.ofNat 16 v)) (selField (BitVec.ofNat 16 v)) (qField (BitVec.ofNat 16 v))
    (abField (BitVec.ofNat 16 v)) s.consume with ⟨busy, abort, outcome⟩ | ⟨busy, notAbort, outcome⟩ |
    ⟨idle, abort, outcome⟩ | ⟨idle, notAbort, passed, build, outcome⟩ | ⟨idle, notAbort, passed, notBuild, outcome⟩ |
    ⟨idle, -, failed, outcome⟩ <;> rw [outcome]
  · exact .abortRequested v rest head busy abort
  · exact .commandDropped v rest head busy notAbort
  · exact .abortIgnored v rest head idle abort
  · exact .buildAccepted v rest head idle notAbort passed build
  · exact .singleAccepted v rest head idle notAbort passed notBuild
  · exact .rejected v rest head idle failed

/-- A cell of a BUILD, by whether it is the last one (R134, R135). -/
theorem blockStep_of_buildCell (s : State) (algo : AlgorithmId) (turn : s.sequencerNext) (busy : s.run = .busy)
    (build : s.actOp = 0x8#4) (algorithm : algorithmOf s.actSel = some algo) :
    BlockStep s (s.yield.buildCell algo) := by
  rcases buildCell_cases algo s.yield with ⟨notLast, outcome⟩ | ⟨last, outcome⟩ <;>
    rw [outcome, ← State.cellDepth, yield_cellDepth]
  · exact .cellWritten algo turn busy build algorithm (yield_atLastCell s ▸ notLast)
  · exact .buildFinished algo turn busy build algorithm (yield_atLastCell s ▸ last)

/-- Everything that a step which goes on can do to the block. -/
theorem step_blockStep (s t : State) (h : step s = .next t) : BlockStep s t := by
  cases step_cases s t h with
  | readRegister n v rest head =>
    exact .quiet _ _ _ (not_writeNext_of_head head nofun) (not_resetNext_of_head head nofun)
  | writeIgnored n v rest head low =>
    have notCommand : ∀ v', AgentAction.hostWrite n v ≠ .hostWrite 1 v' := fun v' same => by cases same; omega
    exact .quiet _ _ _ (not_writeNext_of_head head notCommand) (not_resetNext_of_head head nofun)
  | readFree addr rest head =>
    exact .quiet _ _ _ (not_writeNext_of_head head nofun) (not_resetNext_of_head head nofun)
  | readStored addr rest head =>
    exact .quiet _ _ _ (not_writeNext_of_head head nofun) (not_resetNext_of_head head nofun)
  | inert turn =>
    rw [State.yield_eq]
    exact .quiet _ _ _ (not_writeNext_of_sequencerNext s 1 turn) (not_resetNext_of_sequencerNext s turn)
  | writeOperand v rest head => exact .operandWritten v rest head
  | submit v rest head => exact blockStep_of_submit s v rest head
  | reset rest head => exact .reset rest head
  | complete i r turn busy word notBuild => exact .completed r turn busy notBuild
  | stopBuild turn busy build accepted due =>
    have rowStart : s.k = 0 := by simpa [State.abortDue] using (Bool.and_eq_true_iff.mp due).2
    exact .buildStopped turn busy build rowStart
  | buildCell algo turn busy build accepted due algorithm =>
    exact blockStep_of_buildCell s algo turn busy build algorithm

/-! ### The cells of the table -/

/-- The three bytes of a cell start at three times its number (R46). -/
theorem cellBase_eq (i j k : Nat) : cellBase i j k = 3 * cellNumber i j k := rfl

/-- No two cells share a number (R46). -/
theorem cellNumber_inj {i j k i' j' k' : Nat} (hj : j < 255) (hk : k < 255) (hj' : j' < 255) (hk' : k' < 255)
    (same : cellNumber i j k = cellNumber i' j' k') : i = i' ∧ j = j' ∧ k = k' := by
  unfold cellNumber at same
  omega

/-- Writing a cell leaves every byte outside it as it was (R45, R134). -/
theorem Memory.stored_writeCell_outside (m : Memory) (base addr : Nat) (depth : Depth)
    (outside : addr < base ∨ base + 3 ≤ addr) : (m.writeCell base depth).stored addr = m.stored addr := by
  rw [Memory.stored_writeCell, if_neg (by omega), if_neg (by omega), if_neg (by omega)]

/-- A cell that has been written holds its colour's depth (R43, R134). -/
theorem cellHolds_writeCell (m : Memory) (algo : AlgorithmId) (q a i j k : Nat) :
    cellHolds (m.writeCell (cellBase i j k) (decodeColour algo i j k q a)) algo q a i j k := by
  simp [cellHolds, Memory.stored_writeCell]

/-- Writing a cell leaves the earlier cells as they were (R46). -/
theorem cellHolds_writeCell_of_lt (m : Memory) (depth : Depth) (algo : AlgorithmId) (q a i j k i' j' k' : Nat)
    (earlier : cellNumber i' j' k' < cellNumber i j k) (holds : cellHolds m algo q a i' j' k') :
    cellHolds (m.writeCell (cellBase i j k) depth) algo q a i' j' k' := by
  simp only [cellHolds, cellBase_eq] at *
  obtain ⟨high, low, padding⟩ := holds
  refine ⟨?_, ?_, ?_⟩
  · rwa [Memory.stored_writeCell_outside _ _ _ _ (by omega)]
  · rwa [Memory.stored_writeCell_outside _ _ _ _ (by omega)]
  · rwa [Memory.stored_writeCell_outside _ _ _ _ (by omega)]

/-- The sweep grows by the cell that is written (R134, R136). -/
theorem sweptBelow_writeCell (m : Memory) (algo : AlgorithmId) (q a i j k : Nat) (hj : j < 255) (hk : k < 255)
    (swept : sweptBelow m algo q a (cellNumber i j k)) :
    sweptBelow (m.writeCell (cellBase i j k) (decodeColour algo i j k q a)) algo q a (cellNumber i j k + 1) := by
  intro i' j' k' hi' hj' hk' below
  rcases Nat.lt_succ_iff_lt_or_eq.mp below with earlier | same
  · exact cellHolds_writeCell_of_lt _ _ _ _ _ _ _ _ _ _ _ earlier (swept i' j' k' hi' hj' hk' earlier)
  · obtain ⟨rfl, rfl, rfl⟩ := cellNumber_inj hj' hk' hj hk same
    exact cellHolds_writeCell _ _ _ _ _ _ _

/-- The sweep up to and with cell (254, 254, 254) is the whole table (R132, R135). -/
theorem tableHolds_of_sweptBelow (m : Memory) (algo : AlgorithmId) (q a : Nat)
    (swept : sweptBelow m algo q a (cellNumber 254 254 254 + 1)) : tableHolds m algo q a := by
  intro i j k hi hj hk
  refine swept i j k hi hj hk ?_
  unfold cellNumber
  omega

/-! ### The advance of the sweep counter -/

/-- `I`, `J` and `K` are channel values of the table, in [0, 254] (R20). -/
def State.countersInRange (s : State) : Prop := s.i.toNat ≤ 254 ∧ s.j.toNat ≤ 254 ∧ s.k.toNat ≤ 254

/-- A counter below its end counts up without a wrap. -/
theorem toNat_succ_of_lt {c : Byte} (below : c.toNat < 254) : (c + 1#8).toNat = c.toNat + 1 := by
  bv_omega

/-- The advance keeps the counter in the table (R20, R135). -/
theorem advance_countersInRange (s : State) (range : s.countersInRange) : s.advance.countersInRange := by
  obtain ⟨hi, hj, hk⟩ := range
  rcases advance_cases s with ⟨below, next⟩ | ⟨-, below, next⟩ | ⟨-, -, below, next⟩ | ⟨-, -, -, next⟩ <;> rw [next]
  · exact ⟨hi, hj, (toNat_succ_of_lt below).trans_le below⟩
  · exact ⟨hi, (toNat_succ_of_lt below).trans_le below, Nat.zero_le _⟩
  · exact ⟨(toNat_succ_of_lt below).trans_le below, Nat.zero_le _, Nat.zero_le _⟩
  · exact ⟨Nat.zero_le _, Nat.zero_le _, Nat.zero_le _⟩

/-- Before the last cell the advance goes to the cell with the next number (R46, R135). -/
theorem advance_cellNumber (s : State) (range : s.countersInRange) (notLast : s.atLastCell = false) :
    cellNumber s.advance.i.toNat s.advance.j.toNat s.advance.k.toNat =
      cellNumber s.i.toNat s.j.toNat s.k.toNat + 1 := by
  obtain ⟨hi, hj, hk⟩ := range
  rcases advance_cases s with ⟨below, next⟩ | ⟨kEnd, below, next⟩ | ⟨kEnd, jEnd, below, next⟩ |
    ⟨kEnd, jEnd, iEnd, -⟩
  · simp only [next, toNat_succ_of_lt below, cellNumber, BitVec.ofNat_eq_ofNat]
    omega
  · simp only [next, toNat_succ_of_lt below, cellNumber, BitVec.ofNat_eq_ofNat, BitVec.toNat_ofNat]
    omega
  · simp only [next, toNat_succ_of_lt below, cellNumber, BitVec.ofNat_eq_ofNat, BitVec.toNat_ofNat]
    omega
  · simp [(atLastCell_iff s).mpr ⟨kEnd, jEnd, iEnd⟩] at notLast

/-- In range, the last cell is (254, 254, 254) (R135). -/
theorem cellNumber_of_atLastCell (s : State) (range : s.countersInRange) (last : s.atLastCell = true) :
    cellNumber s.i.toNat s.j.toNat s.k.toNat = cellNumber 254 254 254 := by
  obtain ⟨hi, hj, hk⟩ := range
  obtain ⟨kEnd, jEnd, iEnd⟩ := (atLastCell_iff s).mp last
  unfold cellNumber
  omega

/-! ### The invariant -/

theorem building_iff (s : State) : s.building = true ↔ s.run = .busy ∧ s.actOp = 0x8#4 := by
  simp [State.building]

/-- What of a state the invariant speaks of: the rest is set to its value at reset. -/
def State.tracked (s : State) : State :=
  { s with operand := 0, result := 0, ovr := false, actOpnd := 0, agenda := [], reply := none, freeCount := 0 }

theorem tracked_inv_iff (s : State) : s.tracked.Inv ↔ s.Inv :=
  ⟨fun ⟨err, range, latches, abort, row, wf, invalid, swept, valid⟩ =>
      ⟨err, range, latches, abort, row, wf, invalid, swept, valid⟩,
   fun ⟨err, range, latches, abort, row, wf, invalid, swept, valid⟩ =>
      ⟨err, range, latches, abort, row, wf, invalid, swept, valid⟩⟩

/-- The registers that the invariant does not speak of may change freely. -/
theorem inv_of_tracked_eq {s t : State} (inv : s.Inv) (same : t.tracked = s.tracked) : t.Inv := by
  rwa [← tracked_inv_iff, same, tracked_inv_iff]

/-- Settles O45: at reset nothing has been latched, requested, written or tagged. -/
theorem invariantHoldsAtReset : Obligations.InvariantHoldsAtReset where
  errExactlyInError := ⟨fun error => absurd rfl error, nofun⟩
  countersInRange := ⟨Nat.zero_le _, Nat.zero_le _, Nat.zero_le _⟩
  latchesAccepted := nofun
  abortReqOnlyWhileBusy := nofun
  abortedAtRowBoundary := nofun
  memoryWf := Memory.reset_wf
  invalidWhileBuilding _ := rfl
  sweptSoFar := nofun
  validTagIsTrue := nofun

section

variable {s : State}

/-- Outside ERROR no error code stands (R14). -/
theorem State.Inv.err_eq_none (inv : s.Inv) (run : s.run ≠ .error) : s.err = .none := by
  by_contra err
  exact run (inv.errExactlyInError.mp err)

/-- Only a BUSY block holds an abort request (R21). -/
theorem State.Inv.abortReq_eq_false (inv : s.Inv) (idle : s.run ≠ .busy) : s.abortReq = false := by
  by_contra requested
  exact idle (inv.abortReqOnlyWhileBusy (by simpa using requested))

/-- The current cell lies inside the table (R25, R46). -/
theorem cell_inside (range : s.countersInRange) :
    cellBase s.i.toNat s.j.toNat s.k.toNat + 2 < Config.tblBytes := by
  obtain ⟨hi, hj, hk⟩ := range
  simp only [cellBase, Config.tblBytes]
  omega

/-- The cell that a BUILD writes is the current one, with its own depth (R134). -/
theorem writeCell_sweptBelow (inv : s.Inv) (algo : AlgorithmId) (busy : s.run = .busy) (build : s.actOp = 0x8#4)
    (algorithm : algorithmOf s.actSel = some algo) :
    sweptBelow (s.writeCell (s.cellDepth algo)).tbl algo s.actQ.toNat s.actAb.toNat
      (cellNumber s.i.toNat s.j.toNat s.k.toNat + 1) := by
  obtain ⟨-, hj, hk⟩ := inv.countersInRange
  exact sweptBelow_writeCell _ _ _ _ _ _ _ (by omega) (by omega)
    (inv.sweptSoFar ((building_iff s).mpr ⟨busy, build⟩) algo algorithm)

theorem writeCell_memoryWf (inv : s.Inv) (depth : Depth) : (s.writeCell depth).tbl.wf = true :=
  Memory.writeCell_wf _ _ _ (cell_inside inv.countersInRange) inv.memoryWf

/-- ABORT while BUSY only sets the request (R138). -/
theorem inv_requestAbort (inv : s.Inv) (busy : s.run = .busy) : s.requestAbort.Inv :=
  { inv with abortReqOnlyWhileBusy := fun _ => busy }

/-- A rejection leaves an error code and no build (R156). -/
theorem inv_errorEntry (inv : s.Inv) (idle : s.run ≠ .busy) (e : ErrCode) (error : e ≠ .none) :
    (s.errorEntry e).Inv where
  errExactlyInError := ⟨fun _ => rfl, fun _ => error⟩
  countersInRange := inv.countersInRange
  latchesAccepted := nofun
  abortReqOnlyWhileBusy requested := by simp [inv.abortReq_eq_false idle] at requested
  abortedAtRowBoundary := nofun
  memoryWf := inv.memoryWf
  invalidWhileBuilding := by simp [building_iff]
  sweptSoFar := by simp [building_iff]
  validTagIsTrue := inv.validTagIsTrue

/-- A command other than BUILD that is let through touches neither tag nor table (R73). -/
theorem inv_capture (inv : s.Inv) (w : Word) (notAbort : opField w ≠ 0x9#4) (passed : checkWord w = .none)
    (notBuild : opField w ≠ 0x8#4) : (s.capture w).Inv where
  errExactlyInError := by simp [State.capture]
  countersInRange := inv.countersInRange
  latchesAccepted _ := ⟨notAbort, passed⟩
  abortReqOnlyWhileBusy := nofun
  abortedAtRowBoundary := nofun
  memoryWf := inv.memoryWf
  invalidWhileBuilding building := absurd ((building_iff _).mp building).2 notBuild
  sweptSoFar building := absurd ((building_iff _).mp building).2 notBuild
  validTagIsTrue := inv.validTagIsTrue

/-- A BUILD that is let through drops `VALID` before a cell is written, and has swept nothing yet (R20, R22, R132). -/
theorem inv_startSweep (inv : s.Inv) (w : Word) (notAbort : opField w ≠ 0x9#4) (passed : checkWord w = .none) :
    (s.capture w).startSweep.Inv where
  errExactlyInError := by simp [State.capture]
  countersInRange := by simp
  latchesAccepted _ := ⟨notAbort, passed⟩
  abortReqOnlyWhileBusy := nofun
  abortedAtRowBoundary := nofun
  memoryWf := inv.memoryWf
  invalidWhileBuilding _ := rfl
  sweptSoFar _ _ _ _ _ _ _ _ _ below := absurd below (Nat.not_lt_zero _)
  validTagIsTrue := nofun

/-- A single-result command completes without a build (R131). -/
theorem inv_complete (inv : s.Inv) (busy : s.run = .busy) (r : Word24) : (s.complete r).Inv where
  errExactlyInError := by simp [inv.err_eq_none (by simp [busy])]
  countersInRange := inv.countersInRange
  latchesAccepted := nofun
  abortReqOnlyWhileBusy := nofun
  abortedAtRowBoundary := nofun
  memoryWf := inv.memoryWf
  invalidWhileBuilding := by simp [building_iff]
  sweptSoFar := by simp [building_iff]
  validTagIsTrue := inv.validTagIsTrue

/-- A build that stops does so at a row start (R136). -/
theorem inv_stopBuild (inv : s.Inv) (busy : s.run = .busy) (rowStart : s.k = 0) : s.stopBuild.Inv where
  errExactlyInError := by simp [inv.err_eq_none (by simp [busy])]
  countersInRange := inv.countersInRange
  latchesAccepted := nofun
  abortReqOnlyWhileBusy := nofun
  abortedAtRowBoundary _ := rowStart
  memoryWf := inv.memoryWf
  invalidWhileBuilding := by simp [building_iff]
  sweptSoFar := by simp [building_iff]
  validTagIsTrue := inv.validTagIsTrue

/-- The step of a cell before the last one: the sweep holds one cell more, and `VALID` stays 0 (R134, R136). -/
theorem inv_cellWritten (inv : s.Inv) (algo : AlgorithmId) (busy : s.run = .busy) (build : s.actOp = 0x8#4)
    (algorithm : algorithmOf s.actSel = some algo) (notLast : s.atLastCell = false) :
    (s.writeCell (s.cellDepth algo)).advance.Inv where
  errExactlyInError := by simpa using inv.errExactlyInError
  countersInRange := advance_countersInRange (s.writeCell _) inv.countersInRange
  latchesAccepted := by simpa using inv.latchesAccepted
  abortReqOnlyWhileBusy := by simpa using inv.abortReqOnlyWhileBusy
  abortedAtRowBoundary := by simp [busy]
  memoryWf := by simpa using writeCell_memoryWf inv (s.cellDepth algo)
  invalidWhileBuilding := by simpa [building_iff] using inv.invalidWhileBuilding
  sweptSoFar _ algo' algorithm' := by
    obtain rfl : algo = algo' := by simpa [algorithm] using algorithm'
    rw [advance_cellNumber (s.writeCell _) inv.countersInRange notLast]
    simpa using writeCell_sweptBelow inv algo busy build algorithm
  validTagIsTrue := by simp [inv.invalidWhileBuilding ((building_iff s).mpr ⟨busy, build⟩)]

/-- The step of the last cell: the table holds the whole build whose tag is written (R22, R134, R139). -/
theorem inv_buildFinished (inv : s.Inv) (algo : AlgorithmId) (busy : s.run = .busy) (build : s.actOp = 0x8#4)
    (algorithm : algorithmOf s.actSel = some algo) (last : s.atLastCell = true) :
    (s.writeCell (s.cellDepth algo)).advance.finishBuild.Inv where
  errExactlyInError := by simp [inv.err_eq_none (by simp [busy])]
  countersInRange := advance_countersInRange (s.writeCell _) inv.countersInRange
  latchesAccepted := nofun
  abortReqOnlyWhileBusy := nofun
  abortedAtRowBoundary := nofun
  memoryWf := by simpa using writeCell_memoryWf inv (s.cellDepth algo)
  invalidWhileBuilding := by simp [building_iff]
  sweptSoFar := by simp [building_iff]
  validTagIsTrue _ := by
    have swept := writeCell_sweptBelow inv algo busy build algorithm
    rw [cellNumber_of_atLastCell s inv.countersInRange last] at swept
    exact ⟨algo, by simpa using algorithm, by simpa using tableHolds_of_sweptBelow _ _ _ _ swept⟩

/-- A reset leaves the registers of the power-on state, and the table as it was (R27, R170). -/
theorem inv_resetBlock (inv : s.Inv) : s.resetBlock.Inv :=
  { invariantHoldsAtReset with memoryWf := inv.memoryWf, sweptSoFar := nofun, validTagIsTrue := nofun }

end

/-- Settles O46: one case for each thing a step can do to the block; `VALID` is set by the last cell of a sweep only,
and no cell is written while it is set. -/
theorem invariantIsKeptByEveryStep : Obligations.InvariantIsKeptByEveryStep := by
  intro s t inv h
  have consumed : s.consume.Inv := inv_of_tracked_eq inv rfl
  have yielded : s.yield.Inv := inv_of_tracked_eq inv (by rw [State.yield_eq]; rfl)
  cases step_blockStep s t h with
  | quiet => exact inv_of_tracked_eq inv rfl
  | operandWritten => exact inv_of_tracked_eq inv rfl
  | commandDropped => exact inv_of_tracked_eq inv rfl
  | abortIgnored => exact inv_of_tracked_eq inv rfl
  | abortRequested v rest head busy => exact inv_requestAbort consumed busy
  | buildAccepted v rest head idle notAbort passed => exact inv_startSweep consumed _ notAbort passed
  | singleAccepted v rest head idle notAbort passed notBuild => exact inv_capture consumed _ notAbort passed notBuild
  | rejected v rest head idle failed =>
    exact inv_errorEntry (s := s.consume.clearOvr) (inv_of_tracked_eq inv rfl) idle _ failed
  | reset => exact inv_resetBlock consumed
  | completed r turn busy => exact inv_complete yielded (by simpa using busy) r
  | buildStopped turn busy build rowStart => exact inv_stopBuild yielded (by simpa using busy) (by simpa using rowStart)
  | cellWritten algo turn busy build algorithm notLast =>
    rw [← yield_cellDepth]
    exact inv_cellWritten yielded algo (by simpa using busy) (by simpa using build) (by simpa using algorithm)
      (by rwa [yield_atLastCell])
  | buildFinished algo turn busy build algorithm last =>
    rw [← yield_cellDepth]
    exact inv_buildFinished yielded algo (by simpa using busy) (by simpa using build) (by simpa using algorithm)
      (by rwa [yield_atLastCell])

/-! ### Acceptance and overrun -/

/-- Settles O8: acceptance captures the command, and for a BUILD starts the sweep besides. -/
theorem validCommandIsLatched : Obligations.ValidCommandIsLatched := by
  intro c s pending idle wellFormed notAbort
  have passed := (check_encode_eq_none_iff c notAbort).mpr wellFormed
  rw [exec_offered c s pending]
  rcases accept_cases (opField (encode c)) (selField (encode c)) (qField (encode c)) (abField (encode c)) s.consume with
    ⟨busy, -⟩ | ⟨busy, -⟩ | ⟨-, abort, -⟩ | ⟨-, -, -, build, outcome⟩ | ⟨-, -, -, notBuild, outcome⟩ | ⟨-, -, failed, -⟩
  · exact absurd busy idle
  · exact absurd busy idle
  · exact absurd abort notAbort
  · rw [outcome]
    simp only [if_pos build]
    rfl
  · rw [outcome]
    simp only [if_neg notBuild]
    rfl
  · exact absurd passed failed

/-- A command other than ABORT that is written while BUSY is dropped (R19, R155). -/
theorem step_of_dropped (s : State) (v : Nat) (rest : List AgentAction) (head : s.agenda = .hostWrite 1 v :: rest)
    (busy : s.run = .busy) (notAbort : v / 4096 % 16 ≠ 9) :
    step s = .next { s with agenda := rest, ovr := true } := by
  have notAbort' := (opField_ofNat_eq_abort_iff v).not.mpr notAbort
  have submitted : writeRegister 1 v s = submitWord (BitVec.ofNat 16 v) s := rfl
  have dropped : accept (opField (BitVec.ofNat 16 v)) (selField (BitVec.ofNat 16 v)) (qField (BitVec.ofNat 16 v))
      (abField (BitVec.ofNat 16 v)) s.consume = s.consume.raiseOvr := by
    simp [accept, busy, notAbort']
  rw [step_of_hostWrite s 1 v rest head, submitted, submitWord_offered _ _ (cmdWritePending_of_head s v rest head),
    dropped, consume_of_head s _ rest head]
  rfl

/-- `OVR` after a step from `s`, by R19. -/
def State.ovrAfter (s : State) : Prop :=
  (∃ v rest, s.agenda = .hostWrite 1 v :: rest ∧ s.run = .busy ∧ v / 4096 % 16 ≠ 9) ∨
    (s.ovr = true ∧ (¬∃ v rest, s.agenda = .hostWrite 1 v :: rest ∧ s.run ≠ .busy) ∧
      ¬∃ rest, s.agenda = .reset :: rest)

theorem ovrAfter_of_other {s : State} (noCommand : ¬ s.writeNext 1) (noReset : ¬ s.resetNext) :
    s.ovrAfter ↔ s.ovr = true := by
  simp only [State.writeNext, State.resetNext, not_exists] at noCommand noReset
  simp [State.ovrAfter, noCommand, noReset]

theorem ovrAfter_of_sequencerNext {s : State} (turn : s.sequencerNext) : s.ovrAfter ↔ s.ovr = true :=
  ovrAfter_of_other (not_writeNext_of_sequencerNext s 1 turn) (not_resetNext_of_sequencerNext s turn)

theorem ovrAfter_of_command {s : State} {v : Nat} {rest : List AgentAction}
    (head : s.agenda = .hostWrite 1 v :: rest) :
    s.ovrAfter ↔ s.run = .busy ∧ (opField (BitVec.ofNat 16 v) ≠ 0x9#4 ∨ s.ovr = true) := by
  rw [Ne, opField_ofNat_eq_abort_iff]
  by_cases busy : s.run = .busy
  · simp [State.ovrAfter, head, busy]
  · simp [State.ovrAfter, head, busy]

theorem not_ovrAfter_of_reset {s : State} {rest : List AgentAction} (head : s.agenda = .reset :: rest) :
    ¬ s.ovrAfter := by
  simp [State.ovrAfter, head]

/-- R19 for one step: only a submitted word and a reset reach `OVR`. -/
theorem step_ovr_iff (s t : State) (h : step s = .next t) : t.ovr = true ↔ s.ovrAfter := by
  cases step_blockStep s t h with
  | quiet _ _ _ noCommand noReset => exact (ovrAfter_of_other noCommand noReset).symm
  | operandWritten v rest head =>
    exact (ovrAfter_of_other (not_writeNext_of_head head nofun) (not_resetNext_of_head head nofun)).symm
  | commandDropped v rest head busy notAbort => simp [ovrAfter_of_command head, busy, notAbort]
  | abortRequested v rest head busy abort => simp [ovrAfter_of_command head, busy, abort]
  | abortIgnored v rest head idle => simp [ovrAfter_of_command head, idle]
  | buildAccepted v rest head idle => simp [ovrAfter_of_command head, idle, State.capture]
  | singleAccepted v rest head idle => simp [ovrAfter_of_command head, idle, State.capture]
  | rejected v rest head idle => simp [ovrAfter_of_command head, idle]
  | reset rest head => simp [not_ovrAfter_of_reset head, State.reset]
  | completed r turn => simp [ovrAfter_of_sequencerNext turn]
  | buildStopped turn => simp [ovrAfter_of_sequencerNext turn]
  | cellWritten algo turn => simp [ovrAfter_of_sequencerNext turn]
  | buildFinished algo turn => simp [ovrAfter_of_sequencerNext turn]

/-- Settles O13: `OVR` after any step, and the dropping write's whole effect. -/
theorem overrunIsSticky : Obligations.OverrunIsSticky :=
  ⟨step_ovr_iff, step_of_dropped⟩

/-! ### The abort request -/

/-- `ABORT_REQ` after a step from `s` to `t`, by R21. -/
def State.abortReqAfter (s t : State) : Prop :=
  (∃ v rest, s.agenda = .hostWrite 1 v :: rest ∧ s.run = .busy ∧ v / 4096 % 16 = 9) ∨
    (s.abortReq = true ∧ ¬(s.run ≠ .busy ∧ t.run = .busy) ∧ ¬(s.run = .busy ∧ t.run ≠ .busy) ∧
      ¬∃ rest, s.agenda = .reset :: rest)

theorem abortReqAfter_of_other {s : State} (t : State) (noCommand : ¬ s.writeNext 1) (noReset : ¬ s.resetNext) :
    s.abortReqAfter t ↔ s.abortReq = true ∧ (s.run = .busy ↔ t.run = .busy) := by
  simp only [State.writeNext, State.resetNext, not_exists] at noCommand noReset
  simp only [State.abortReqAfter, noCommand, noReset, false_and, exists_false, false_or, not_false_eq_true, and_true]
  tauto

theorem abortReqAfter_of_sequencerNext {s : State} (t : State) (turn : s.sequencerNext) :
    s.abortReqAfter t ↔ s.abortReq = true ∧ (s.run = .busy ↔ t.run = .busy) :=
  abortReqAfter_of_other t (not_writeNext_of_sequencerNext s 1 turn) (not_resetNext_of_sequencerNext s turn)

theorem abortReqAfter_of_command {s : State} {v : Nat} {rest : List AgentAction} (t : State)
    (head : s.agenda = .hostWrite 1 v :: rest) :
    s.abortReqAfter t ↔ (s.run = .busy ∧ opField (BitVec.ofNat 16 v) = 0x9#4) ∨
      (s.abortReq = true ∧ (s.run = .busy ↔ t.run = .busy)) := by
  rw [opField_ofNat_eq_abort_iff]
  by_cases busy : s.run = .busy
  · simp [State.abortReqAfter, head, busy]
  · simp [State.abortReqAfter, head, busy]

theorem not_abortReqAfter_of_reset {s : State} {rest : List AgentAction} (t : State)
    (head : s.agenda = .reset :: rest) : ¬ s.abortReqAfter t := by
  simp [State.abortReqAfter, head]

/-- Settles O15: an ABORT while BUSY sets the request; an acceptance, each way out of BUSY and a reset clear it. -/
theorem abortRequestLifecycle : Obligations.AbortRequestLifecycle := by
  intro s t h
  change t.abortReq = true ↔ s.abortReqAfter t
  cases step_blockStep s t h with
  | quiet _ _ _ noCommand noReset => simp [abortReqAfter_of_other _ noCommand noReset]
  | operandWritten v rest head =>
    simp [abortReqAfter_of_other _ (not_writeNext_of_head head nofun) (not_resetNext_of_head head nofun)]
  | commandDropped v rest head busy notAbort => simp [abortReqAfter_of_command _ head, notAbort]
  | abortRequested v rest head busy abort => simp [abortReqAfter_of_command _ head, busy, abort]
  | abortIgnored v rest head idle => simp [abortReqAfter_of_command _ head, idle]
  | buildAccepted v rest head idle => simp [abortReqAfter_of_command _ head, idle, State.capture]
  | singleAccepted v rest head idle => simp [abortReqAfter_of_command _ head, idle, State.capture]
  | rejected v rest head idle => simp [abortReqAfter_of_command _ head, idle]
  | reset rest head => simp [not_abortReqAfter_of_reset _ head, State.reset]
  | completed r turn busy => simp [abortReqAfter_of_sequencerNext _ turn, busy]
  | buildStopped turn busy => simp [abortReqAfter_of_sequencerNext _ turn, busy]
  | cellWritten algo turn => simp [abortReqAfter_of_sequencerNext _ turn]
  | buildFinished algo turn busy => simp [abortReqAfter_of_sequencerNext _ turn, busy]

/-! ### Who changes what -/

theorem resetBlock_latchedWord (s : State) : s.resetBlock.latchedWord = 0 :=
  (latchedWord_eq_iff _ _).mpr ⟨rfl, rfl, rfl, rfl⟩

/-- Settles O48: only a capture and a reset reach the latches. -/
theorem latchesChangeOnlyAtAcceptance : Obligations.LatchesChangeOnlyAtAcceptance := by
  intro s t h
  cases step_blockStep s t h with
  | buildAccepted v rest head idle =>
    exact .inr (.inl ⟨idle, rfl, rfl, v, rest, head, capture_latchedWord (BitVec.ofNat 16 v) s.consume⟩)
  | singleAccepted v rest head idle =>
    exact .inr (.inl ⟨idle, rfl, rfl, v, rest, head, capture_latchedWord (BitVec.ofNat 16 v) s.consume⟩)
  | reset rest head => exact .inr (.inr ⟨rest, head, resetBlock_latchedWord s.consume, rfl⟩)
  | _ => exact .inl (by simp)

/-- Settles O49: completions, rejections and resets write `RESULT`. -/
theorem resultChangesOnlyAtCompletion : Obligations.ResultChangesOnlyAtCompletion := by
  intro s t h changed
  cases step_blockStep s t h with
  | completed r turn busy notBuild => exact .inl ⟨busy, rfl, notBuild, turn⟩
  | rejected v rest head idle => exact .inr (.inl ⟨idle, rfl, rfl, cmdWritePending_of_head s v rest head⟩)
  | reset rest head => exact .inr (.inr ⟨rfl, rest, head⟩)
  | _ => exact absurd (by simp [State.capture]) changed

/-- Settles O50: the two kinds of BUILD step that write, write the current cell. -/
theorem onlyBuildStepsWriteTheTable : Obligations.OnlyBuildStepsWriteTheTable := by
  intro s t h
  cases step_blockStep s t h with
  | cellWritten algo turn busy build =>
    refine .inr ⟨busy, build, turn, fun addr outside => ?_⟩
    simpa using Memory.stored_writeCell_outside s.tbl _ addr (s.cellDepth algo) outside
  | buildFinished algo turn busy build =>
    refine .inr ⟨busy, build, turn, fun addr outside => ?_⟩
    simpa using Memory.stored_writeCell_outside s.tbl _ addr (s.cellDepth algo) outside
  | _ => exact .inl (by simp [State.capture])

/-- Settles O51: only the write to register 0 and a reset have `OPERAND` among what they change. -/
theorem onlyTheHostWritesOperand : Obligations.OnlyTheHostWritesOperand := by
  intro s t h
  have unchanged : ¬ s.writeNext 0 → ¬ s.resetNext → t.operand = s.operand := by
    intro noWrite noReset
    cases step_blockStep s t h with
    | operandWritten v rest head => exact absurd ⟨v, rest, head⟩ noWrite
    | reset rest head => exact absurd ⟨rest, head⟩ noReset
    | _ => simp [State.capture]
  refine ⟨?_, ?_, unchanged⟩
  · rintro ⟨v, rest, head⟩
    rw [step_of_hostWrite s 0 v rest head] at h
    cases h
    exact ⟨v, rest, head, BitVec.toNat_ofNat v 24⟩
  · rintro ⟨rest, head⟩
    rw [step_of_reset s rest head] at h
    cases h
    rfl

/-- Settles O52: one disjunct for each maker of a transition. -/
theorem stateMachineOfTheBlock : Obligations.StateMachineOfTheBlock := by
  intro s t h
  cases step_blockStep s t h with
  | buildAccepted v rest head idle =>
    exact .inr (.inl ⟨idle, .inl rfl, cmdWritePending_of_head s v rest head⟩)
  | singleAccepted v rest head idle =>
    exact .inr (.inl ⟨idle, .inl rfl, cmdWritePending_of_head s v rest head⟩)
  | rejected v rest head idle => exact .inr (.inl ⟨idle, .inr rfl, cmdWritePending_of_head s v rest head⟩)
  | reset rest head => exact .inr (.inr (.inr ⟨rfl, rest, head⟩))
  | completed r turn busy => exact .inr (.inr (.inl ⟨busy, .inl rfl, turn⟩))
  | buildStopped turn busy => exact .inr (.inr (.inl ⟨busy, .inr rfl, turn⟩))
  | buildFinished algo turn busy => exact .inr (.inr (.inl ⟨busy, .inl rfl, turn⟩))
  | _ => exact .inl (by simp)

/-- Settles O53: the tag moves when a BUILD is accepted and when it ends, the counter in each of its cells. -/
theorem tagAndCounterFollowBuilds : Obligations.TagAndCounterFollowBuilds := by
  intro s t h
  cases step_blockStep s t h with
  | buildAccepted v rest head idle _ _ build =>
    exact ⟨.inr (.inl ⟨idle, rfl, build, rfl⟩), .inr (.inl ⟨idle, rfl, build, rfl, rfl, rfl⟩)⟩
  | reset rest head =>
    exact ⟨.inr (.inr (.inr ⟨rest, head, rfl⟩)), .inr (.inr (.inr ⟨rfl, rfl, rfl, rest, head⟩))⟩
  | cellWritten algo turn busy build => exact ⟨.inl (by simp), .inr (.inr (.inl ⟨busy, build, turn⟩))⟩
  | buildFinished algo turn busy build =>
    exact ⟨.inr (.inr (.inl ⟨busy, build, rfl, by simp⟩)), .inr (.inr (.inl ⟨busy, build, turn⟩))⟩
  | _ => exact ⟨.inl (by simp [State.capture]), .inl (by simp [State.capture])⟩

/-! ### The host's accesses -/

/-- Settles O4: a submitted word that is a command is that command's meaning. -/
theorem stepRunsTheSubmittedCommand : Obligations.StepRunsTheSubmittedCommand := by
  intro s v rest c head decoded
  rw [step_of_hostWrite s 1 v rest head]
  simp [writeRegister, submitWord, decoded]

/-- Settles O57: the four kinds of register that the host can name in a write, but for `CMD`. -/
theorem hostWriteStoresOrIsIgnored : Obligations.HostWriteStoresOrIsIgnored := by
  intro s n v rest head
  rw [step_of_hostWrite s n v rest head]
  rcases writeRegister_cases n v s with ⟨rfl, written⟩ | ⟨rfl, -⟩ | ⟨low, high, ignored⟩ | ⟨above, refused⟩
  · refine ⟨fun _ => ?_, by omega, by omega⟩
    rw [written, consume_of_head s _ rest head]
    rfl
  · exact ⟨by omega, by omega, by omega⟩
  · refine ⟨by omega, fun _ _ => ?_, by omega⟩
    rw [ignored, consume_of_head s _ rest head]
  · exact ⟨by omega, by omega, fun _ => refused⟩

/-- Settles O59: the reset's whole next state, and the power-on state beside it. -/
theorem resetClearsRegistersAndKeepsTheTable : Obligations.ResetClearsRegistersAndKeepsTheTable := by
  constructor
  · intro s rest head
    rw [step_of_reset s rest head, consume_of_head s _ rest head]
    rfl
  · exact ⟨rfl, rfl, rfl, rfl, rfl, rfl, rfl, rfl, rfl, rfl, rfl, rfl, rfl, rfl, rfl, fun _ => ⟨rfl, rfl⟩⟩

/-! ### The registers as numbers -/

/-- Fields side by side, as a number. -/
theorem toNat_append_eq_add {m n : Nat} (high : BitVec m) (low : BitVec n) :
    (high ++ low).toNat = high.toNat * 2 ^ n + low.toNat := by
  rw [BitVec.toNat_append, ← Nat.shiftLeft_add_eq_or_of_lt low.isLt, Nat.shiftLeft_eq]

/-- The code of `STATUS.STATE`, as a number (R14). -/
theorem RunState.code_toNat (run : RunState) :
    run.code.toNat = match run with | .idle => 0 | .busy => 1 | .done => 2 | .error => 3 | .aborted => 4 := by
  cases run <;> rfl

/-- The code of `STATUS.ERR`, as a number (R14, R150). -/
theorem ErrCode.code_toNat (err : ErrCode) :
    err.code.toNat = match err with
      | .none => 0 | .configurationError => 1 | .unknownAlgorithmError => 2 | .illegalCommand => 3 := by
  cases err <;> rfl

/-- `STATUS` as a number (R14). -/
theorem status_toNat (s : State) :
    s.status.toNat = s.run.code.toNat + 8 * s.err.code.toNat + 64 * s.ovr.toNat := by
  simp only [State.status, toNat_append_eq_add, BitVec.toNat_ofBool, BitVec.toNat_ofNat]
  omega

/-- `PROGRESS` as a number (R17, R20). -/
theorem progress_toNat (s : State) : s.progress.toNat = s.i.toNat * 65536 + s.j.toNat * 256 + s.k.toNat := by
  simp only [State.progress, toNat_append_eq_add]
  omega

/-- `TBLTAG` as a number (R22). -/
theorem tagBits_toNat (tag : TblTag) :
    tag.bits.toNat = tag.valid.toNat * 4096 + tag.algo.toNat * 512 + tag.q.toNat * 16 + tag.ab.toNat := by
  simp only [TblTag.bits, toNat_append_eq_add, BitVec.toNat_ofBool]
  omega

/-- Settles O56: the value of each register, in arithmetic. -/
theorem hostReadReturnsTheRegister : Obligations.HostReadReturnsTheRegister := by
  intro s n rest head
  rw [step_of_hostRead s n rest head]
  rcases readRegister_cases n s with ⟨small, v, value, answered⟩ | ⟨above, refused⟩
  · refine ⟨fun _ => ⟨v, ?_, ?_⟩, by omega⟩
    · rw [answered, consume_of_head s _ rest head]
      rfl
    · refine ⟨?_, ?_, ?_, ?_, ?_, ?_⟩ <;> rintro rfl <;> cases value
      · rfl
      · rfl
      · have codes := status_toNat s
        rw [RunState.code_toNat, ErrCode.code_toNat] at codes
        exact (BitVec.toNat_setWidth_of_le (by decide)).trans codes
      · rfl
      · exact progress_toNat s
      · rw [BitVec.toNat_setWidth_of_le (by decide), tagBits_toNat]
  · exact ⟨by omega, fun _ => refused⟩

end Sys2Proof.Machine
end

section
/-! PROOFS. The statements of 20_memory.md: the address map of the table, the host's table reads, and the placing of a
command word. -/

namespace Sys2Proof.Machine

/-! ### The address map -/

/-- The table has three bytes for each cell number below 255·255·255 (R25, R46). -/
theorem tblBytes_eq : Config.tblBytes = 3 * (255 * 255 * 255) := rfl

/-- The numbers of the cells stay below 255·255·255 (R46). -/
theorem cellNumber_lt {i j k : Nat} (hi : i < 255) (hj : j < 255) (hk : k < 255) :
    cellNumber i j k < 255 * 255 * 255 := by
  unfold cellNumber
  omega

/-- Every number below 255·255·255 is that of a cell: its digits in base 255 (R46). -/
theorem exists_cell_of_number {n : Nat} (hn : n < 255 * 255 * 255) :
    ∃ i j k, i < 255 ∧ j < 255 ∧ k < 255 ∧ cellNumber i j k = n := by
  refine ⟨n / 65025, n / 255 % 255, n % 255, by omega, Nat.mod_lt _ (by decide), Nat.mod_lt _ (by decide), ?_⟩
  unfold cellNumber
  omega

/-- No byte belongs to two cells, or to one cell twice (R46). -/
theorem cellByte_inj {i j k b i' j' k' b' : Nat} (hj : j < 255) (hk : k < 255) (hb : b < 3) (hj' : j' < 255)
    (hk' : k' < 255) (hb' : b' < 3) (same : cellBase i j k + b = cellBase i' j' k' + b') :
    i = i' ∧ j = j' ∧ k = k' ∧ b = b' := by
  rw [cellBase_eq, cellBase_eq] at same
  obtain ⟨rfl, rfl, rfl⟩ := cellNumber_inj hj hk hj' hk' (by omega : cellNumber i j k = cellNumber i' j' k')
  exact ⟨rfl, rfl, rfl, by omega⟩

/-- Settles O44: the cell's number is the address divided by 3, the byte within the cell the remainder. -/
theorem addressMapIsDense : Obligations.AddressMapIsDense := by
  intro addr
  constructor
  · intro inside
    rw [tblBytes_eq] at inside
    obtain ⟨i, j, k, hi, hj, hk, number⟩ := exists_cell_of_number (n := addr / 3) (by omega)
    have hb : addr % 3 < 3 := Nat.mod_lt _ (by decide)
    have here : addr = cellBase i j k + addr % 3 := by rw [cellBase_eq, number, Nat.div_add_mod]
    refine ⟨(i, j, k, addr % 3), ⟨hi, hj, hk, hb, here⟩, ?_⟩
    rintro ⟨i', j', k', b'⟩ ⟨-, hj', hk', hb', there⟩
    obtain ⟨rfl, rfl, rfl, rfl⟩ := cellByte_inj hj' hk' hb' hj hk hb (there.symm.trans here)
    rfl
  · rintro ⟨⟨i, j, k, b⟩, ⟨hi, hj, hk, hb, here⟩, -⟩
    have number := cellNumber_lt hi hj hk
    rw [cellBase_eq] at here
    rw [tblBytes_eq]
    omega

/-! ### The bytes of the table that the host reads -/

/-- Where nothing has been stored, the table holds its power-on byte (R27, R48). -/
theorem Memory.read_of_not_stored (m : Memory) (addr : Nat) (h : m.stored addr = none) :
    m.read addr = Config.tblInit addr := by
  simp [Memory.read, h, Memory.unlisted]

/-- The high byte of a depth, as a number (R43). -/
theorem depth_high_toNat (depth : Depth) : (depth.extractLsb' 8 8).toNat = depth.toNat / 256 := by
  have := depth.isLt
  rw [BitVec.extractLsb'_toNat, Nat.shiftRight_eq_div_pow]
  omega

/-- The low byte of a depth, as a number (R43). -/
theorem depth_low_toNat (depth : Depth) : (depth.extractLsb' 0 8).toNat = depth.toNat % 256 := by
  rw [BitVec.extractLsb'_toNat, Nat.shiftRight_zero]

/-- What the table reads as at the three bytes of a cell that holds its depth (R43, R49). -/
theorem read_of_cellHolds {m : Memory} {algo : AlgorithmId} {q a i j k : Nat} (holds : cellHolds m algo q a i j k) :
    (m.read (cellBase i j k)).toNat = (decodeColour algo i j k q a).toNat / 256 ∧
    (m.read (cellBase i j k + 1)).toNat = (decodeColour algo i j k q a).toNat % 256 ∧
    m.read (cellBase i j k + 2) = 0#8 := by
  obtain ⟨high, low, padding⟩ := holds
  refine ⟨?_, ?_, Memory.read_stored _ _ _ padding⟩
  · rw [Memory.read_stored _ _ _ high, depth_high_toNat]
  · rw [Memory.read_stored _ _ _ low, depth_low_toNat]

/-! ### A step at a table read -/

theorem step_of_tblRead (s : State) (addr : Nat) (rest : List AgentAction) (head : s.agenda = .tblRead addr :: rest) :
    step s = readTable addr s := by
  simp [step, nextAction, head]

/-- A byte goes to the host as the number it is (R10). -/
theorem consume_answer_byte (s : State) (action : AgentAction) (rest : List AgentAction)
    (head : s.agenda = action :: rest) (b : Byte) :
    s.consume.answer (b.setWidth 24) = { s with agenda := rest, reply := some (BitVec.ofNat 24 b.toNat) } := by
  rw [consume_of_head s action rest head, BitVec.ofNat_toNat]
  rfl

/-- An unspecified byte goes to the host as the number it is, and is counted (R42, notes/assumptions/6.md). -/
theorem consume_takeFreeByte_answer_byte (s : State) (action : AgentAction) (rest : List AgentAction)
    (head : s.agenda = action :: rest) (b : Byte) :
    s.consume.takeFreeByte.answer (b.setWidth 24) =
      { s with agenda := rest, reply := some (BitVec.ofNat 24 b.toNat), freeCount := s.freeCount + 1 } := by
  rw [consume_of_head s action rest head, BitVec.ofNat_toNat]
  rfl

/-- Settles O58: one case for each outcome of a table read; outside a BUILD the byte is the one the table holds. -/
theorem tableReadReturnsAByte : Obligations.TableReadReturnsAByte := by
  intro s addr rest head
  rw [step_of_tblRead s addr rest head]
  have size := tblBytes_eq
  rcases readTable_cases addr s with ⟨inside, building, outcome⟩ | ⟨inside, notBuilding, outcome⟩ |
    ⟨outside, outcome⟩ <;> rw [outcome]
  · have busyBuild := (building_iff s).mp building
    refine ⟨fun _ notBusyBuild => absurd busyBuild notBusyBuild,
      fun _ _ _ => ⟨Config.freeByte s.freeCount, ?_⟩, by omega⟩
    rw [consume_takeFreeByte_answer_byte s _ rest head]
  · have notBusyBuild : ¬(s.run = .busy ∧ s.actOp = 0x8#4) := by simp [← building_iff, notBuilding]
    refine ⟨fun _ _ => ⟨s.tbl.read addr, ?_, ?_, Memory.read_of_not_stored s.tbl addr, ?_⟩,
      fun _ busy build => absurd ⟨busy, build⟩ notBusyBuild, by omega⟩
    · rw [consume_answer_byte s _ rest head]
    · exact fun b' stored => Memory.read_stored s.tbl addr b' stored
    · intro algo q a i j k holds
      obtain ⟨high, low, padding⟩ := read_of_cellHolds holds
      exact ⟨fun at0 => at0 ▸ high, fun at1 => at1 ▸ low, fun at2 => at2 ▸ padding⟩
  · exact ⟨by omega, by omega, fun _ => rfl⟩

/-! ### A placed command word -/

/-- A table word is a command when the command word in its low bits decodes to it (R50, R60). -/
theorem decodeTableWord_eq_some_iff (nbits w : Nat) (c : Instr) :
    decodeTableWord nbits w = some c ↔ decodeWord (BitVec.ofNat 16 (w % 2 ^ nbits)) = .ok c := by
  unfold decodeTableWord
  split <;> simp_all

/-- Settles O6: the placed word is a host write to `CMD`, which runs the command that the word is. -/
theorem placedWordIsTheNextCommand : Obligations.PlacedWordIsTheNextCommand := by
  intro s w c decoded
  exact stepRunsTheSubmittedCommand (s.withFetchWord 16 w) (w % 2 ^ 16) s.agenda c rfl
    ((decodeTableWord_eq_some_iff 16 w c).mp decoded)

end Sys2Proof.Machine
end

section
/-! PROOFS. The statements of 30_encoding.md: the round trip of the encoder, the words that are no command, and the
acceptance of a submitted word. -/

namespace Sys2Proof.Machine

/-! ### The fields of a word as numbers -/

/-- `OP` as a number (R61). -/
theorem opField_toNat (w : Word) : (opField w).toNat = w.toNat / 4096 := by
  simp only [opField, BitVec.extractLsb'_toNat, Nat.shiftRight_eq_div_pow]
  omega

/-- `SEL` as a number (R61). -/
theorem selField_toNat (w : Word) : (selField w).toNat = w.toNat / 512 % 8 := by
  simp [selField, Nat.shiftRight_eq_div_pow]

/-! ### The words that are no command -/

/-- `SEL` names one of the seven algorithms or is 7 (R63, R153). -/
theorem decodeLane_eq_error_iff (sel : BitVec 3) (q : BitVec 5) (ab : BitVec 4) (e : DecodeError) :
    decodeLane sel q ab = .error e ↔ sel.toNat = 7 ∧ e = .unknownAlgorithm := by
  have bound := sel.isLt
  unfold decodeLane
  split
  case h_8 n0 n1 n2 n3 n4 n5 n6 =>
    simp only [imp_false] at n0 n1 n2 n3 n4 n5 n6
    have seven : sel.toNat = 7 := by omega
    simp [seven, eq_comm]
  all_goals
    rename_i code
    simp [code]

/-- Why a word is no command: its opcode is reserved, or it is a DECODE of no algorithm (R62, R63). -/
theorem decodeWord_eq_error_iff (w : Word) (e : DecodeError) :
    decodeWord w = .error e ↔
      (((opField w).toNat = 0 ∨ 10 ≤ (opField w).toNat) ∧ e = .illegalCommand) ∨
      ((opField w).toNat = 7 ∧ (selField w).toNat = 7 ∧ e = .unknownAlgorithm) := by
  unfold decodeWord
  split
  case h_7 decode => simp [decode, decodeLane_eq_error_iff]
  case h_10 n1 n2 n3 n4 n5 n6 n7 n8 n9 =>
    simp only [imp_false] at n1 n2 n3 n4 n5 n6 n7 n8 n9
    have reserved : (opField w).toNat = 0 ∨ 10 ≤ (opField w).toNat := by omega
    simp [reserved, n7, eq_comm (b := e)]
  all_goals
    rename_i code
    simp [code]

/-- Settles O1: the round trip holds command by command. -/
theorem encodeThenDecodeIsIdentity : Obligations.EncodeThenDecodeIsIdentity := decodeWord_encode

/-- Settles O2: the two reasons of the decoder, with the fields read off the number. -/
theorem wordsThatAreNoCommand : Obligations.WordsThatAreNoCommand := by
  intro w
  simp only [decodeWord_eq_error_iff, opField_toNat, selField_toNat]
  constructor
  · simp
  · simp only [reduceCtorEq, and_false, false_or, and_true]
    omega

/-- Settles O3: each word is the encoding of its command. -/
theorem writtenOutWordsDecode : Obligations.WrittenOutWordsDecode :=
  ⟨decodeWord_encode (.menc 0 10 8), decodeWord_encode (.mench 0 16 5), decodeWord_encode (.mdec 7 16 8),
    decodeWord_encode (.decodeHilbert 16 5), decodeWord_encode (.decodePacked 16 8), decodeWord_encode (.build 6 16 8),
    decodeWord_encode (.abort 0 0 0)⟩

/-! ### The fields of the word that the host writes as a number -/

/-- BUILD's opcode, in the word and in the number the host writes (R13, R62). -/
theorem opField_ofNat_eq_build_iff (v : Nat) : opField (BitVec.ofNat 16 v) = 0x8#4 ↔ v / 4096 % 16 = 8 := by
  rw [← opField_ofNat_toNat]
  exact BitVec.toNat_inj.symm

theorem opField_ofNat (v : Nat) : opField (BitVec.ofNat 16 v) = BitVec.ofNat 4 (v / 4096 % 16) := by
  apply BitVec.eq_of_toNat_eq
  simp [opField_ofNat_toNat]

theorem selField_ofNat_toNat (v : Nat) : (selField (BitVec.ofNat 16 v)).toNat = v / 512 % 8 := by
  rw [selField_toNat, BitVec.toNat_ofNat]
  omega

theorem selField_ofNat (v : Nat) : selField (BitVec.ofNat 16 v) = BitVec.ofNat 3 (v / 512 % 8) := by
  apply BitVec.eq_of_toNat_eq
  simp [selField_ofNat_toNat]

theorem qField_ofNat_toNat (v : Nat) : (qField (BitVec.ofNat 16 v)).toNat = v / 16 % 32 := by
  simp only [qField, BitVec.extractLsb'_toNat, BitVec.toNat_ofNat, Nat.shiftRight_eq_div_pow]
  omega

theorem qField_ofNat (v : Nat) : qField (BitVec.ofNat 16 v) = BitVec.ofNat 5 (v / 16 % 32) := by
  apply BitVec.eq_of_toNat_eq
  simp [qField_ofNat_toNat]

theorem abField_ofNat_toNat (v : Nat) : (abField (BitVec.ofNat 16 v)).toNat = v % 16 := by
  simp only [abField, BitVec.extractLsb'_toNat, BitVec.toNat_ofNat, Nat.shiftRight_eq_div_pow]
  omega

theorem abField_ofNat (v : Nat) : abField (BitVec.ofNat 16 v) = BitVec.ofNat 4 (v % 16) := by
  apply BitVec.eq_of_toNat_eq
  simp [abField_ofNat_toNat]

/-! ### Acceptance of a submitted word -/

/-- The check's answer, with the fields as numbers (R151, R152). -/
theorem check_eq (op : BitVec 4) (sel : BitVec 3) (q : BitVec 5) (ab : BitVec 4) :
    check op sel q ab =
      if op.toNat = 0 ∨ 10 ≤ op.toNat then .illegalCommand
      else if (op.toNat = 7 ∨ op.toNat = 8) ∧ sel.toNat = 7 then .unknownAlgorithmError
      else if (1 ≤ q.toNat ∧ q.toNat ≤ 16) ∧ (1 ≤ ab.toNat ∧ ab.toNat ≤ 8) ∧ ab.toNat ≤ q.toNat ∧
          ((op.toNat = 7 ∨ op.toNat = 8) ∧ (sel.toNat = 3 ∨ sel.toNat = 4) → q.toNat - ab.toNat ≤ 8) then .none
      else .configurationError := by
  simp [check, cfgValid, ← BitVec.toNat_inj, and_assoc, imp_iff_not_or]

/-- A host write to `CMD` is the acceptance of the word, whatever the word is (R13, R73). -/
theorem step_of_submit (s : State) (v : Nat) (rest : List AgentAction) (head : s.agenda = .hostWrite 1 v :: rest) :
    step s = .next (accept (opField (BitVec.ofNat 16 v)) (selField (BitVec.ofNat 16 v)) (qField (BitVec.ofNat 16 v))
      (abField (BitVec.ofNat 16 v)) { s with agenda := rest }) := by
  rw [← consume_of_head s _ rest head, step_of_hostWrite s 1 v rest head]
  exact submitWord_offered _ s (cmdWritePending_of_head s v rest head)

/-- Settles O7: one case for each outcome of acceptance, with the fields of the word as numbers. -/
theorem submittedWordFollowsAcceptance : Obligations.SubmittedWordFollowsAcceptance := by
  intro s v rest head op sel q a valid e
  have checked : check (opField (BitVec.ofNat 16 v)) (selField (BitVec.ofNat 16 v)) (qField (BitVec.ofNat 16 v))
      (abField (BitVec.ofNat 16 v)) = e := by
    rw [check_eq, opField_ofNat_toNat, selField_ofNat_toNat, qField_ofNat_toNat, abField_ofNat_toNat]
  have abortCode : opField (BitVec.ofNat 16 v) = 0x9#4 ↔ op = 9 := opField_ofNat_eq_abort_iff v
  have buildCode : opField (BitVec.ofNat 16 v) = 0x8#4 ↔ op = 8 := opField_ofNat_eq_build_iff v
  rw [step_of_submit s v rest head]
  congr 1
  rcases accept_cases (opField (BitVec.ofNat 16 v)) (selField (BitVec.ofNat 16 v)) (qField (BitVec.ofNat 16 v))
    (abField (BitVec.ofNat 16 v)) { s with agenda := rest } with ⟨busy, abort, outcome⟩ | ⟨busy, notAbort, outcome⟩ |
    ⟨idle, abort, outcome⟩ | ⟨idle, notAbort, passed, build, outcome⟩ | ⟨idle, notAbort, passed, notBuild, outcome⟩ |
    ⟨idle, notAbort, failed, outcome⟩ <;> rw [outcome]
  · rw [if_pos busy, if_pos (abortCode.mp abort)]
    rfl
  · rw [if_pos busy, if_neg (abortCode.not.mp notAbort)]
    rfl
  · rw [if_neg idle, if_pos (abortCode.mp abort)]
    rfl
  · rw [if_neg idle, if_neg (abortCode.not.mp notAbort), if_neg (not_not.mpr (checked ▸ passed)),
      if_pos (buildCode.mp build), opField_ofNat, selField_ofNat, qField_ofNat, abField_ofNat]
    rfl
  · rw [if_neg idle, if_neg (abortCode.not.mp notAbort), if_neg (not_not.mpr (checked ▸ passed)),
      if_neg (buildCode.not.mp notBuild), opField_ofNat, selField_ofNat, qField_ofNat, abField_ofNat]
    rfl
  · rw [if_neg idle, if_neg (abortCode.not.mp notAbort), if_pos (checked ▸ failed), checked]
    rfl

end Sys2Proof.Machine
end

section
/-! PROOFS. The statements of 40_bitinterleave.md: the four commands of the BitInterleave unit, bit by bit, and the round
trips of its network. -/

namespace Sys2Proof.Machine

/-! ### A running single-result command -/

/-- A running command whose rule is `singleResult f` completes with `f` of the latched operand and of its own
`quantization` and `algoBits` (R23, R131). -/
theorem exec_of_singleResult (c : Instr) (f : Word24 → Nat → Nat → Word24) (s : State) (running : s.running c)
    (notAbort : opField (encode c) ≠ 0x9#4) (rule : ruleOf c = singleResult f) :
    exec c s = .next (s.yield.complete (f s.actOpnd (qField (encode c)).toNat (abField (encode c)).toNat)) := by
  rw [exec_of_running c s running notAbort, rule]
  obtain ⟨-, -, word, -⟩ := running
  obtain ⟨-, -, hq, hab⟩ := (latchedWord_eq_iff s (encode c)).mp word
  simp [singleResult, hq, hab]

/-! ### The operand and the result, bit by bit -/

/-- The operand of MENC is the low 16 bits (R64). -/
theorem value16Operand_eq (opnd : Word24) : value16Operand opnd = opnd.toNat % 65536 := by
  rw [value16Operand, BitVec.extractLsb'_toNat, Nat.shiftRight_zero]

/-- The bits of the three axes of an operand (R64). -/
theorem axesOperand_testBit (opnd : Word24) {g : Nat} (hg : g < 8) :
    (axesOperand opnd).x.testBit g = opnd.getLsbD (16 + g) ∧
    (axesOperand opnd).y.testBit g = opnd.getLsbD (8 + g) ∧
    (axesOperand opnd).z.testBit g = opnd.getLsbD g := by
  simp only [axesOperand, firstOperand, secondOperand, thirdOperand, BitVec.testBit_toNat, BitVec.getLsbD_extractLsb',
    hg, decide_true, Bool.true_and, Nat.zero_add, and_self]

/-- The bits of a result that packs three axes (R65). -/
theorem packAxes_getLsbD (axes : Axes) {g : Nat} (hg : g < 8) :
    (packAxes axes).getLsbD (16 + g) = axes.x.testBit g ∧
    (packAxes axes).getLsbD (8 + g) = axes.y.testBit g ∧
    (packAxes axes).getLsbD g = axes.z.testBit g := by
  unfold packAxes
  have past1 : ¬ 8 + g < 8 := by omega
  have past2 : ¬ 16 + g < 8 := by omega
  have shift : 16 + g - 8 = 8 + g := by omega
  have byte (v : Nat) : (BitVec.ofNat 8 v).getLsbD g = v.testBit g := by
    rw [BitVec.getLsbD_ofNat, decide_eq_true hg, Bool.true_and]
  refine ⟨?_, ?_, ?_⟩ <;> rw [BitVec.getLsbD_append, BitVec.getLsbD_append]
  · rw [if_neg past2, shift, if_neg past1, Nat.add_sub_cancel_left, byte]
  · rw [if_neg past1, Nat.add_sub_cancel_left, if_pos hg, byte]
  · rw [if_pos hg, byte]

/-- The bits of a result that holds one integer (R65). -/
theorem packValue_getLsbD (v : Nat) {i : Nat} (hi : i < 24) : (packValue v).getLsbD i = v.testBit i := by
  rw [packValue, BitVec.getLsbD_ofNat, decide_eq_true hi, Bool.true_and]

/-! ### The network, bit by bit -/

/-- The bits of the three axes that the interleave network gives (R80). -/
theorem ilEnc_testBit (n groups g : Nat) :
    (ilEnc n groups).x.testBit g = (decide (g < groups) && n.testBit (3 * g + 2)) ∧
    (ilEnc n groups).y.testBit g = (decide (g < groups) && n.testBit (3 * g + 1)) ∧
    (ilEnc n groups).z.testBit g = (decide (g < groups) && n.testBit (3 * g)) :=
  ⟨gather_testBit _ _ _, gather_testBit _ _ _, gather_testBit _ _ _⟩

/-- The three bits of one group of the de-interleave (R81). -/
theorem ilDec_testBit_group (axes : Axes) (groups g : Nat) :
    (ilDec axes groups).testBit (3 * g + 2) = (decide (g < groups) && axes.x.testBit g) ∧
    (ilDec axes groups).testBit (3 * g + 1) = (decide (g < groups) && axes.y.testBit g) ∧
    (ilDec axes groups).testBit (3 * g) = (decide (g < groups) && axes.z.testBit g) := by
  have div2 : (3 * g + 2) / 3 = g := by omega
  have div1 : (3 * g + 1) / 3 = g := by omega
  have lt2 : 3 * g + 2 < 3 * groups ↔ g < groups := by omega
  have lt1 : 3 * g + 1 < 3 * groups ↔ g < groups := by omega
  simp [ilDec_testBit, Nat.add_mod, div2, div1, lt2, lt1]

/-- The result of MENC and MENCH, bit by bit: the groups of `n` on the three axes (R80, R65). -/
theorem packAxes_ilEnc_getLsbD (n groups : Nat) {g : Nat} (hg : g < 8) :
    (packAxes (ilEnc n groups)).getLsbD (16 + g) = (decide (g < groups) && n.testBit (3 * g + 2)) ∧
    (packAxes (ilEnc n groups)).getLsbD (8 + g) = (decide (g < groups) && n.testBit (3 * g + 1)) ∧
    (packAxes (ilEnc n groups)).getLsbD g = (decide (g < groups) && n.testBit (3 * g)) := by
  obtain ⟨x, y, z⟩ := packAxes_getLsbD (ilEnc n groups) hg
  rw [x, y, z]
  exact ilEnc_testBit n groups g

/-- The result of MDEC and MDECH, bit by bit: the operand's three axes in groups (R81, R65). -/
theorem packValue_ilDec_getLsbD (opnd : Word24) (groups : Nat) {g : Nat} (hg : g < 8) :
    (packValue (ilDec (axesOperand opnd) groups)).getLsbD (3 * g + 2) =
      (decide (g < groups) && opnd.getLsbD (16 + g)) ∧
    (packValue (ilDec (axesOperand opnd) groups)).getLsbD (3 * g + 1) =
      (decide (g < groups) && opnd.getLsbD (8 + g)) ∧
    (packValue (ilDec (axesOperand opnd) groups)).getLsbD (3 * g) = (decide (g < groups) && opnd.getLsbD g) := by
  obtain ⟨x, y, z⟩ := axesOperand_testBit opnd hg
  rw [← x, ← y, ← z, packValue_getLsbD _ (by omega), packValue_getLsbD _ (by omega), packValue_getLsbD _ (by omega)]
  exact ilDec_testBit_group (axesOperand opnd) groups g

/-! ### The four commands -/

/-- Settles O16: the network's six groups of the shifted value. -/
theorem mencSpreadsTheShiftedValue : Obligations.MencSpreadsTheShiftedValue := by
  intro sel q ab s running
  refine ⟨packAxes (mencValue (value16Operand s.actOpnd) q.toNat), ?_, fun g hg => ?_⟩
  · rw [exec_of_singleResult _ _ s running (by simp [encode]) (by rw [ruleOf]), encode, qField_commandWord]
    rfl
  · rw [mencValue, value16Operand_eq, Nat.shiftLeft_eq]
    exact packAxes_ilEnc_getLsbD _ 6 hg

/-- Settles O17: the network's `algoBits` groups of the whole operand. -/
theorem menchSpreadsTheValue : Obligations.MenchSpreadsTheValue := by
  intro sel q ab s running
  refine ⟨packAxes (menchValue (value24Operand s.actOpnd) ab.toNat), ?_, fun g hg => ?_⟩
  · rw [exec_of_singleResult _ _ s running (by simp [encode]) (by rw [ruleOf]), encode, abField_commandWord]
    rfl
  · exact packAxes_ilEnc_getLsbD s.actOpnd.toNat ab.toNat hg

/-- Settles O18: six groups of the inverse network. -/
theorem mdecGathersSixBits : Obligations.MdecGathersSixBits := by
  intro sel q ab s running
  refine ⟨packValue (mdecValue (axesOperand s.actOpnd)), ?_, fun g hg => ?_⟩
  · rw [exec_of_singleResult _ _ s running (by simp [encode]) (by rw [ruleOf])]
    rfl
  · exact packValue_ilDec_getLsbD s.actOpnd 6 hg

/-- Settles O19: `algoBits` groups of the inverse network. -/
theorem mdechGathersAlgoBits : Obligations.MdechGathersAlgoBits := by
  intro sel q ab s running
  refine ⟨packValue (mdechValue (axesOperand s.actOpnd) ab.toNat), ?_, fun g hg => ?_⟩
  · rw [exec_of_singleResult _ _ s running (by simp [encode]) (by rw [ruleOf]), encode, abField_commandWord]
    rfl
  · exact packValue_ilDec_getLsbD s.actOpnd ab.toNat hg

/-! ### The round trips -/

/-- Two integers with the same three bits in every group are equal. -/
theorem eq_of_testBit_group {m n : Nat}
    (same : ∀ g, m.testBit (3 * g + 2) = n.testBit (3 * g + 2) ∧ m.testBit (3 * g + 1) = n.testBit (3 * g + 1) ∧
      m.testBit (3 * g) = n.testBit (3 * g)) : m = n := by
  apply Nat.eq_of_testBit_eq
  intro i
  obtain ⟨g, place⟩ : ∃ g, i = 3 * g + 2 ∨ i = 3 * g + 1 ∨ i = 3 * g := ⟨i / 3, by omega⟩
  obtain ⟨first, second, third⟩ := same g
  obtain rfl | rfl | rfl := place
  · exact first
  · exact second
  · exact third

/-- De-interleaving an interleaved value gives its low `3·groups` bits back (R86, R87). -/
theorem ilDec_ilEnc (groups v : Nat) : ilDec (ilEnc v groups) groups = v % 2 ^ (3 * groups) := by
  apply eq_of_testBit_group
  intro g
  have lt2 : 3 * g + 2 < 3 * groups ↔ g < groups := by omega
  have lt1 : 3 * g + 1 < 3 * groups ↔ g < groups := by omega
  simp [ilDec_testBit_group, ilEnc_testBit, Nat.testBit_mod_two_pow, lt2, lt1]

/-- An integer within `groups` bits has no bit from there on. -/
theorem decide_and_testBit_of_lt {x groups : Nat} (hx : x < 2 ^ groups) (g : Nat) :
    (decide (g < groups) && x.testBit g) = x.testBit g := by
  rw [← Nat.testBit_mod_two_pow, Nat.mod_eq_of_lt hx]

/-- Two triples of axes with the same bits are equal. -/
theorem Axes.eq_of_testBit {a b : Axes}
    (same : ∀ g, a.x.testBit g = b.x.testBit g ∧ a.y.testBit g = b.y.testBit g ∧ a.z.testBit g = b.z.testBit g) :
    a = b := by
  rw [Axes.mk.injEq]
  refine ⟨?_, ?_, ?_⟩ <;> apply Nat.eq_of_testBit_eq <;> intro g <;> obtain ⟨x, y, z⟩ := same g
  · exact x
  · exact y
  · exact z

/-- Interleaving a de-interleaved triple gives its axes back (R86). -/
theorem ilEnc_ilDec (groups : Nat) (axes : Axes) (hx : axes.x < 2 ^ groups) (hy : axes.y < 2 ^ groups)
    (hz : axes.z < 2 ^ groups) : ilEnc (ilDec axes groups) groups = axes := by
  apply Axes.eq_of_testBit
  intro g
  simp [ilEnc_testBit, ilDec_testBit_group, decide_and_testBit_of_lt, hx, hy, hz]

/-- Settles O20: the two round trips of the network. -/
theorem interleaveIsABijection : Obligations.InterleaveIsABijection := ⟨ilDec_ilEnc, ilEnc_ilDec⟩

/-- Settles O21: the shifted value fits the six groups. -/
theorem fixedModeRoundTrip : Obligations.FixedModeRoundTrip := by
  intro q v _ hq hv
  have fits : v * 2 ^ (16 - q) < 2 ^ 18 := calc
    v * 2 ^ (16 - q) < 2 ^ q * 2 ^ (16 - q) := Nat.mul_lt_mul_of_pos_right hv (Nat.two_pow_pos _)
    _ = 2 ^ 16 := by rw [← pow_add, Nat.add_sub_cancel' hq]
    _ < 2 ^ 18 := by decide
  rw [mdecValue, mencValue, ilDec_ilEnc, Nat.shiftLeft_eq, Nat.mod_mod, Nat.mod_eq_of_lt fits]

end Sys2Proof.Machine
end

section
/-! PROOFS. The statements of 41_hilbert_transform.md about the two transforms: each pass of one undoes a pass of the
other, and what their commands answer. -/

namespace Sys2Proof.Machine

/-! ### Triples of axes under exclusive or -/

/-- The exclusive or of two triples, axis by axis: every pass of the two transforms adds a triple this way. -/
def Axes.xor (X Y : Axes) : Axes := { x := X.x ^^^ Y.x, y := X.y ^^^ Y.y, z := X.z ^^^ Y.z }

/-- Every axis is in `[0, 2^a)` (R90). -/
def Axes.Below (a : Nat) (X : Axes) : Prop := X.x < 2 ^ a ∧ X.y < 2 ^ a ∧ X.z < 2 ^ a

/-- No axis has a bit below position `k`. -/
def Axes.ClearBelow (k : Nat) (X : Axes) : Prop := X.x % 2 ^ k = 0 ∧ X.y % 2 ^ k = 0 ∧ X.z % 2 ^ k = 0

@[simp] theorem Axes.get_xor (X Y : Axes) (ix : AxisIx) : (X.xor Y).get ix = X.get ix ^^^ Y.get ix := by
  cases ix <;> rfl

theorem Axes.xor_assoc (X Y Z : Axes) : (X.xor Y).xor Z = X.xor (Y.xor Z) := by
  simp only [Axes.xor, Nat.xor_assoc]

theorem Axes.xor_right_comm (X Y Z : Axes) : (X.xor Y).xor Z = (X.xor Z).xor Y := by
  simp only [Axes.xor, Nat.xor_right_comm]

theorem Axes.xor_xor_cancel_right (X Y : Axes) : (X.xor Y).xor Y = X := by
  simp only [Axes.xor, Nat.xor_xor_cancel_right]

theorem Axes.Below.xor {a : Nat} {X Y : Axes} (hX : X.Below a) (hY : Y.Below a) : (X.xor Y).Below a :=
  ⟨Nat.xor_lt_two_pow hX.1 hY.1, Nat.xor_lt_two_pow hX.2.1 hY.2.1, Nat.xor_lt_two_pow hX.2.2 hY.2.2⟩

theorem Axes.Below.mono {a b : Nat} {X : Axes} (hX : X.Below a) (hab : a ≤ b) : X.Below b :=
  have le : 2 ^ a ≤ 2 ^ b := Nat.pow_le_pow_right (by omega) hab
  ⟨hX.1.trans_le le, hX.2.1.trans_le le, hX.2.2.trans_le le⟩

theorem Axes.ClearBelow.mono {k m : Nat} {X : Axes} (hX : X.ClearBelow m) (hkm : k ≤ m) : X.ClearBelow k := by
  have dvd : 2 ^ k ∣ 2 ^ m := pow_dvd_pow 2 hkm
  simp only [ClearBelow, ← Nat.dvd_iff_mod_eq_zero] at hX ⊢
  exact ⟨dvd.trans hX.1, dvd.trans hX.2.1, dvd.trans hX.2.2⟩

theorem Axes.ClearBelow.get_mod {k : Nat} {X : Axes} (hX : X.ClearBelow k) (ix : AxisIx) : X.get ix % 2 ^ k = 0 := by
  obtain ⟨hx, hy, hz⟩ := hX
  cases ix
  · exact hx
  · exact hy
  · exact hz

theorem Axes.ClearBelow.get_testBit {k : Nat} {X : Axes} (hX : X.ClearBelow k) (ix : AxisIx) {i : Nat} (hi : i < k) :
    (X.get ix).testBit i = false := by
  simpa [Nat.testBit_mod_two_pow, hi] using congrArg (Nat.testBit · i) (hX.get_mod ix)

theorem Axes.lowBits_below (X : Axes) (a : Nat) : (X.lowBits a).Below a :=
  have pos := Nat.two_pow_pos a
  ⟨Nat.mod_lt _ pos, Nat.mod_lt _ pos, Nat.mod_lt _ pos⟩

theorem Axes.lowBits_of_below {a : Nat} {X : Axes} (hX : X.Below a) : X.lowBits a = X := by
  obtain ⟨hx, hy, hz⟩ := hX
  simp [Axes.lowBits, Nat.mod_eq_of_lt, hx, hy, hz]

/-! ### Exchange and invert -/

/-- The triple that is `v` on the first axis and 0 on the others. -/
def Axes.onFirst (v : Nat) : Axes := { x := v, y := 0, z := 0 }

/-- What exchanging the low `k` bits of the first axis and of axis `ix` changes: nothing when `ix` is the first. -/
def swapDelta (ix : AxisIx) (k : Nat) (X : Axes) : Axes :=
  match ix with
  | .first => .onFirst 0
  | .second => { x := (X.x ^^^ X.y) % 2 ^ k, y := (X.x ^^^ X.y) % 2 ^ k, z := 0 }
  | .third => { x := (X.x ^^^ X.z) % 2 ^ k, y := 0, z := (X.x ^^^ X.z) % 2 ^ k }

/-- What the body of the exchange/invert loops changes for one axis and the mask `2^k`: where the axis has bit `k` it
inverts the low bits of the first axis, and where it has not it exchanges the low bits of the two axes (R91, R92). -/
def exchangeDelta (ix : AxisIx) (k : Nat) (X : Axes) : Axes :=
  if (X.get ix).testBit k then .onFirst (2 ^ k - 1) else swapDelta ix k X

theorem and_two_pow_ne_zero (n k : Nat) : n &&& 2 ^ k ≠ 0 ↔ n.testBit k = true := by
  rw [Nat.and_two_pow]
  cases n.testBit k <;> simp

theorem exchangeAxis_eq_xor (ix : AxisIx) (k : Nat) (X : Axes) :
    exchangeAxis ix (2 ^ k) X = X.xor (exchangeDelta ix k X) := by
  unfold exchangeAxis exchangeDelta
  simp only [and_two_pow_ne_zero, Nat.and_two_pow_sub_one_eq_mod]
  split
  · simp [Axes.xor, Axes.put, Axes.onFirst]
  · cases ix <;> simp [Axes.xor, Axes.put, Axes.get, swapDelta, Axes.onFirst]

theorem Axes.onFirst_below {a v : Nat} (hv : v < 2 ^ a) : (Axes.onFirst v).Below a :=
  ⟨hv, Nat.two_pow_pos a, Nat.two_pow_pos a⟩

theorem swapDelta_below (ix : AxisIx) (k : Nat) (X : Axes) : (swapDelta ix k X).Below k := by
  have pos := Nat.two_pow_pos k
  cases ix with
  | first => exact Axes.onFirst_below pos
  | second => exact ⟨Nat.mod_lt _ pos, Nat.mod_lt _ pos, pos⟩
  | third => exact ⟨Nat.mod_lt _ pos, pos, Nat.mod_lt _ pos⟩

theorem exchangeDelta_below (ix : AxisIx) (k : Nat) (X : Axes) : (exchangeDelta ix k X).Below k := by
  unfold exchangeDelta
  split
  · exact Axes.onFirst_below (Nat.sub_one_lt_of_lt (Nat.two_pow_pos k))
  · exact swapDelta_below ix k X

theorem swapDelta_xor_of_clear (ix : AxisIx) {k : Nat} (X : Axes) {H : Axes} (clear : H.ClearBelow k) :
    swapDelta ix k (X.xor H) = swapDelta ix k X := by
  obtain ⟨hx, hy, hz⟩ := clear
  cases ix <;> simp [swapDelta, Axes.xor, Nat.xor_mod_two_pow, hx, hy, hz]

/-- The change for the mask `2^k` depends on bit `k` of the axis and on bits below `k` alone. -/
theorem exchangeDelta_xor_of_clear {ix : AxisIx} {k : Nat} (X : Axes) {H : Axes} (clear : H.ClearBelow k)
    (bit : (H.get ix).testBit k = false) : exchangeDelta ix k (X.xor H) = exchangeDelta ix k X := by
  rw [exchangeDelta, Axes.get_xor, Nat.testBit_xor, bit, Bool.xor_false, swapDelta_xor_of_clear ix X clear,
    exchangeDelta]

/-- Exchanged axes have the same exclusive or. -/
theorem swapDelta_xor_self (ix : AxisIx) (k : Nat) (X : Axes) :
    swapDelta ix k (X.xor (swapDelta ix k X)) = swapDelta ix k X := by
  cases ix <;> simp [swapDelta, Axes.xor, Nat.xor_left_comm, Nat.xor_comm]

theorem Axes.Below.get_testBit {a : Nat} {X : Axes} (hX : X.Below a) (ix : AxisIx) : (X.get ix).testBit a = false := by
  obtain ⟨hx, hy, hz⟩ := hX
  cases ix
  · exact Nat.testBit_lt_two_pow hx
  · exact Nat.testBit_lt_two_pow hy
  · exact Nat.testBit_lt_two_pow hz

/-- The change is the same once it has been made, since it leaves bit `k` alone. -/
theorem exchangeDelta_xor_self (ix : AxisIx) (k : Nat) (X : Axes) :
    exchangeDelta ix k (X.xor (exchangeDelta ix k X)) = exchangeDelta ix k X := by
  rw [exchangeDelta, Axes.get_xor, Nat.testBit_xor, (exchangeDelta_below ix k X).get_testBit, Bool.xor_false]
  unfold exchangeDelta
  split
  · rfl
  · exact swapDelta_xor_self ix k X

theorem exchangeAxis_exchangeAxis (ix : AxisIx) (k : Nat) (X : Axes) :
    exchangeAxis ix (2 ^ k) (exchangeAxis ix (2 ^ k) X) = X := by
  rw [exchangeAxis_eq_xor ix k X, exchangeAxis_eq_xor, exchangeDelta_xor_self, Axes.xor_xor_cancel_right]

theorem exchangeAxis_below {a k : Nat} (ix : AxisIx) {X : Axes} (hX : X.Below a) (hk : k ≤ a) :
    (exchangeAxis ix (2 ^ k) X).Below a := by
  rw [exchangeAxis_eq_xor]
  exact hX.xor ((exchangeDelta_below ix k X).mono hk)

/-- Bits above those that the mask `2^k` reads pass through unchanged. -/
theorem exchangeAxis_xor_of_clear {ix : AxisIx} {k : Nat} (X : Axes) {H : Axes} (clear : H.ClearBelow k)
    (bit : (H.get ix).testBit k = false) :
    exchangeAxis ix (2 ^ k) (X.xor H) = (exchangeAxis ix (2 ^ k) X).xor H := by
  rw [exchangeAxis_eq_xor, exchangeAxis_eq_xor, exchangeDelta_xor_of_clear X clear bit, Axes.xor_right_comm]

theorem exchangeDescending_exchangeAscending (k : Nat) (X : Axes) :
    exchangeDescending (2 ^ k) (exchangeAscending (2 ^ k) X) = X := by
  simp only [exchangeDescending, exchangeAscending, exchangeAxis_exchangeAxis]

theorem exchangeAscending_exchangeDescending (k : Nat) (X : Axes) :
    exchangeAscending (2 ^ k) (exchangeDescending (2 ^ k) X) = X := by
  simp only [exchangeDescending, exchangeAscending, exchangeAxis_exchangeAxis]

/-- The masks upwards undo the masks downwards (R91, R92). -/
theorem exchangeUp_exchangeDown (n : Nat) (X : Axes) : exchangeUp n (exchangeDown n X) = X := by
  induction n generalizing X with
  | zero => rfl
  | succ n ih => rw [exchangeDown, exchangeUp, ih, exchangeDescending_exchangeAscending]

/-- The masks downwards undo the masks upwards (R91, R92). -/
theorem exchangeDown_exchangeUp (n : Nat) (X : Axes) : exchangeDown n (exchangeUp n X) = X := by
  induction n with
  | zero => rfl
  | succ n ih => rw [exchangeUp, exchangeDown, exchangeAscending_exchangeDescending, ih]

theorem exchangeDown_below {a n : Nat} {X : Axes} (hX : X.Below a) (hn : n ≤ a) : (exchangeDown n X).Below a := by
  induction n generalizing X with
  | zero => exact hX
  | succ n ih =>
    exact ih (exchangeAxis_below _ (exchangeAxis_below _ (exchangeAxis_below _ hX hn) hn) hn) (by omega)

theorem exchangeUp_below {a n : Nat} {X : Axes} (hX : X.Below a) (hn : n ≤ a) : (exchangeUp n X).Below a := by
  induction n with
  | zero => exact hX
  | succ n ih =>
    exact exchangeAxis_below _ (exchangeAxis_below _ (exchangeAxis_below _ (ih (by omega)) hn) hn) hn

/-! ### The Gray passes and the correction -/

theorem correction_testBit_succ (n z i : Nat) :
    (correction (n + 1) z).testBit i = ((decide (i < n + 1) && z.testBit (n + 1)) ^^ (correction n z).testBit i) := by
  rw [correction, Nat.testBit_xor]
  simp only [and_two_pow_ne_zero]
  cases z.testBit (n + 1) <;> simp [Nat.testBit_two_pow_sub_one]

theorem correction_lt (n z : Nat) : correction n z < 2 ^ n := by
  apply Nat.lt_pow_two_of_testBit
  induction n with
  | zero => simp [correction]
  | succ n ih =>
    intro i hi
    rw [correction_testBit_succ, ih i (by omega), decide_eq_false (by omega), Bool.false_and, Bool.xor_false]

/-- Each bit of the correction takes up the next higher bit of the axis (R91, C4). -/
theorem correction_testBit (n z i : Nat) :
    (correction n z).testBit i = (decide (i < n) && (z.testBit (i + 1) ^^ (correction n z).testBit (i + 1))) := by
  induction n with
  | zero => simp [correction]
  | succ n ih =>
    rw [correction_testBit_succ, correction_testBit_succ, ih]
    obtain lt | rfl | gt := Nat.lt_trichotomy i n
    · have lt' : i < n + 1 := by omega
      simp [lt, lt', Bool.xor_left_comm]
    · have top : (correction i z).testBit (i + 1) = false :=
        Nat.testBit_lt_two_pow ((correction_lt i z).trans (Nat.pow_lt_pow_succ (by decide)))
      simp [top]
    · have outside : ¬ i < n := by omega
      have outside' : ¬ i < n + 1 := by omega
      simp [outside, outside']

/-- The correction is the shifted last axis that it has corrected, so the Gray decode finds it there (R91, R92). -/
theorem xor_correction_shiftRight {n z : Nat} (hz : z < 2 ^ (n + 1)) :
    (z ^^^ correction n z) >>> 1 = correction n z := by
  apply Nat.eq_of_testBit_eq
  intro i
  rw [Nat.testBit_shiftRight, Nat.testBit_xor, Nat.add_comm 1 i]
  by_cases inside : i < n
  · rw [correction_testBit n z i, decide_eq_true inside, Bool.true_and]
  · have le : 2 ^ (n + 1) ≤ 2 ^ (i + 1) := Nat.pow_le_pow_right (by decide) (by omega)
    rw [correction_testBit n z i, correction_testBit n z (i + 1), Nat.testBit_lt_two_pow (hz.trans_le le),
      decide_eq_false inside, decide_eq_false (by omega), Bool.false_and, Bool.false_and, Bool.xor_false]

/-- The corrections over a Gray-coded axis telescope: each bit is the next higher one against the highest of all. -/
theorem correction_gray_testBit (n z i : Nat) :
    (correction n (z ^^^ (z >>> 1))).testBit i = (decide (i < n) && (z.testBit (i + 1) ^^ z.testBit (n + 1))) := by
  induction n with
  | zero => simp [correction]
  | succ n ih =>
    rw [correction_testBit_succ, ih, Nat.testBit_xor, Nat.testBit_shiftRight, Nat.add_comm 1 (n + 1)]
    obtain lt | rfl | gt := Nat.lt_trichotomy i n
    · have lt' : i < n + 1 := by omega
      simp [lt, lt', Bool.xor_comm, Bool.xor_left_comm]
    · simp
    · have outside : ¬ i < n := by omega
      have outside' : ¬ i < n + 1 := by omega
      simp [outside, outside']

/-- The correction finds the shift that the Gray decode has folded into the last axis (R91, R92). -/
theorem correction_xor_shiftRight {n z : Nat} (hz : z < 2 ^ (n + 1)) : correction n (z ^^^ (z >>> 1)) = z >>> 1 := by
  apply Nat.eq_of_testBit_eq
  intro i
  rw [correction_gray_testBit, Nat.testBit_lt_two_pow hz, Bool.xor_false, Nat.testBit_shiftRight, Nat.add_comm 1 i]
  by_cases inside : i < n
  · rw [decide_eq_true inside, Bool.true_and]
  · have le : 2 ^ (n + 1) ≤ 2 ^ (i + 1) := Nat.pow_le_pow_right (by decide) (by omega)
    rw [decide_eq_false inside, Bool.false_and, Nat.testBit_lt_two_pow (hz.trans_le le)]

/-- The Gray decode undoes the forward pass with its correction. -/
theorem grayDecode_correctAxes_grayForward {n : Nat} {X : Axes} (hX : X.Below (n + 1)) :
    grayDecode (correctAxes n (grayForward X)) = X := by
  obtain ⟨hx, hy, hz⟩ := hX
  have last : X.z ^^^ (X.y ^^^ X.x) < 2 ^ (n + 1) := Nat.xor_lt_two_pow hz (Nat.xor_lt_two_pow hy hx)
  have fold := xor_correction_shiftRight last
  simp only [grayDecode, correctAxes, grayForward, fold]
  simp [Nat.xor_assoc, Nat.xor_left_comm, Nat.xor_comm]

/-- The forward pass with its correction undoes the Gray decode. -/
theorem correctAxes_grayForward_grayDecode {n : Nat} {X : Axes} (hX : X.Below (n + 1)) :
    correctAxes n (grayForward (grayDecode X)) = X := by
  have forward : grayForward (grayDecode X) = X.xor { x := X.z >>> 1, y := X.z >>> 1, z := X.z >>> 1 } := by
    simp [grayDecode, grayForward, Axes.xor, Nat.xor_assoc, Nat.xor_left_comm, Nat.xor_comm]
  have shift : correction n (X.z ^^^ (X.z >>> 1)) = X.z >>> 1 := correction_xor_shiftRight hX.2.2
  simp [forward, correctAxes, Axes.xor, shift]

theorem shiftRight_one_lt {a v : Nat} (hv : v < 2 ^ a) : v >>> 1 < 2 ^ a :=
  (Nat.shiftRight_le v 1).trans_lt hv

theorem grayDecode_below {a : Nat} {X : Axes} (hX : X.Below a) : (grayDecode X).Below a := by
  obtain ⟨hx, hy, hz⟩ := hX
  exact ⟨Nat.xor_lt_two_pow hx (shiftRight_one_lt hz), Nat.xor_lt_two_pow hy hx, Nat.xor_lt_two_pow hz hy⟩

theorem grayForward_below {a : Nat} {X : Axes} (hX : X.Below a) : (grayForward X).Below a := by
  obtain ⟨hx, hy, hz⟩ := hX
  exact ⟨hx, Nat.xor_lt_two_pow hy hx, Nat.xor_lt_two_pow hz (Nat.xor_lt_two_pow hy hx)⟩

theorem correctAxes_below {a n : Nat} {X : Axes} (hX : X.Below a) (hn : n ≤ a) : (correctAxes n X).Below a := by
  have term : correction n X.z < 2 ^ a := (correction_lt n X.z).trans_le (Nat.pow_le_pow_right (by decide) hn)
  exact hX.xor (Y := { x := correction n X.z, y := correction n X.z, z := correction n X.z }) ⟨term, term, term⟩

/-! ### The two transforms -/

theorem hto_below (c : Axes) (a : Nat) : (hto c a).Below a :=
  correctAxes_below (grayForward_below (exchangeDown_below (c.lowBits_below a) (Nat.sub_le a 1))) (Nat.sub_le a 1)

theorem hfrom_below (c : Axes) (a : Nat) : (hfrom c a).Below a :=
  exchangeUp_below (grayDecode_below (c.lowBits_below a)) (Nat.sub_le a 1)

theorem hto_lowBits (c : Axes) (a : Nat) : hto (c.lowBits a) a = hto c a := by
  rw [hto, Axes.lowBits_of_below (c.lowBits_below a), hto]

theorem hfrom_lowBits (c : Axes) (a : Nat) : hfrom (c.lowBits a) a = hfrom c a := by
  rw [hfrom, Axes.lowBits_of_below (c.lowBits_below a), hfrom]

/-- Within range the transforms read their input as it is (R90). -/
theorem hto_of_below {n : Nat} {c : Axes} (hc : c.Below (n + 1)) :
    hto c (n + 1) = correctAxes n (grayForward (exchangeDown n c)) := by
  rw [hto, Axes.lowBits_of_below hc, Nat.add_sub_cancel]

theorem hfrom_of_below {n : Nat} {c : Axes} (hc : c.Below (n + 1)) :
    hfrom c (n + 1) = exchangeUp n (grayDecode c) := by
  rw [hfrom, Axes.lowBits_of_below hc, Nat.add_sub_cancel]

theorem hfrom_hto {n : Nat} {c : Axes} (hc : c.Below (n + 1)) : hfrom (hto c (n + 1)) (n + 1) = c := by
  have inner : (exchangeDown n c).Below (n + 1) := exchangeDown_below hc (Nat.le_succ n)
  rw [hfrom_of_below (hto_below c (n + 1)), hto_of_below hc, grayDecode_correctAxes_grayForward inner,
    exchangeUp_exchangeDown]

theorem hto_hfrom {n : Nat} {c : Axes} (hc : c.Below (n + 1)) : hto (hfrom c (n + 1)) (n + 1) = c := by
  rw [hto_of_below (hfrom_below c (n + 1)), hfrom_of_below hc, exchangeDown_exchangeUp,
    correctAxes_grayForward_grayDecode hc]

/-- Settles O24: each pass of one transform undoes a pass of the other. -/
theorem hilbertTransformsAreInverse : Obligations.HilbertTransformsAreInverse := by
  intro a c ha _ hx hy hz
  obtain ⟨n, rfl⟩ := Nat.exists_eq_add_of_le' ha
  exact ⟨hfrom_hto ⟨hx, hy, hz⟩, hto_hfrom ⟨hx, hy, hz⟩⟩

/-- Settles O25: every pass keeps the axes below `2^a`. -/
theorem hilbertAxesStayInRange : Obligations.HilbertAxesStayInRange := by
  intro a c _ _
  exact ⟨(hto_lowBits c a).symm, (hfrom_lowBits c a).symm, hto_below c a, hfrom_below c a⟩

/-! ### The two commands -/

/-- The three axes of an operand are its three bytes (R64). -/
theorem axesOperand_eq (opnd : Word24) : axesOperand opnd =
    { x := opnd.toNat / 65536, y := opnd.toNat / 256 % 256, z := opnd.toNat % 256 } := by
  have high : opnd.toNat / 65536 < 256 := by omega
  simp [axesOperand, firstOperand, secondOperand, thirdOperand, BitVec.extractLsb'_toNat, Nat.shiftRight_eq_div_pow,
    Nat.mod_eq_of_lt high]

/-- A result that packs three axes below 256, as a number (R65). -/
theorem packAxes_eq {axes : Axes} (h : axes.Below 8) :
    packAxes axes = BitVec.ofNat 24 (axes.x * 65536 + axes.y * 256 + axes.z) := by
  obtain ⟨hx, hy, hz⟩ := h
  have low : axes.x * 65536 + axes.y * 256 + axes.z < 2 ^ 24 := by omega
  apply BitVec.eq_of_toNat_eq
  rw [packAxes, BitVec.toNat_append, BitVec.toNat_append, BitVec.toNat_ofNat, BitVec.toNat_ofNat, BitVec.toNat_ofNat,
    BitVec.toNat_ofNat, Nat.mod_eq_of_lt hx, Nat.mod_eq_of_lt hy, Nat.mod_eq_of_lt hz, Nat.mod_eq_of_lt low,
    ← Nat.shiftLeft_add_eq_or_of_lt hy, ← Nat.shiftLeft_add_eq_or_of_lt hz, Nat.shiftLeft_eq, Nat.shiftLeft_eq]
  omega

theorem algoBits_le_of_configInRange {q : BitVec 5} {ab : BitVec 4} (h : Instr.configInRange q ab = true) :
    ab.toNat ≤ 8 := by
  simp only [Instr.configInRange, Bool.and_eq_true, decide_eq_true_eq] at h
  obtain ⟨⟨-, -, le⟩, -⟩ := h
  exact le

/-- A running command whose rule packs the transform `f` of its three axes, where `f` stays below 256: its whole
effect (R64, R65, R131). -/
theorem exec_of_axesTransform (c : Instr) (f : Axes → Nat → Axes) (s : State) (running : s.running c)
    (notAbort : opField (encode c) ≠ 0x9#4)
    (rule : ruleOf c = singleResult fun opnd _ a => packAxes (f (axesOperand opnd) a))
    (below : (f (axesOperand s.actOpnd) (abField (encode c)).toNat).Below 8) :
    let out := f { x := s.actOpnd.toNat / 65536, y := s.actOpnd.toNat / 256 % 256, z := s.actOpnd.toNat % 256 }
      (abField (encode c)).toNat
    exec c s = .next
      { s.yield with result := BitVec.ofNat 24 (out.x * 65536 + out.y * 256 + out.z), abortReq := false,
                     run := .done } := by
  rw [exec_of_singleResult c _ s running notAbort rule, packAxes_eq below, axesOperand_eq]
  rfl

/-- Settles O22: the transform of the operand's three bytes stays within eight bits an axis. -/
theorem htoCompletes : Obligations.HtoCompletes := by
  intro sel q ab s running
  have ⟨_, _, _, wellFormed⟩ := running
  have below : (hto (axesOperand s.actOpnd) ab.toNat).Below 8 :=
    (hto_below _ _).mono (algoBits_le_of_configInRange wellFormed)
  simpa [encode] using exec_of_axesTransform (.hto sel q ab) hto s running (by simp [encode]) (by rw [ruleOf])
    (by simpa [encode] using below)

/-- Settles O23, as O22, for the inverse transform. -/
theorem hfromCompletes : Obligations.HfromCompletes := by
  intro sel q ab s running
  have ⟨_, _, _, wellFormed⟩ := running
  have below : (hfrom (axesOperand s.actOpnd) ab.toNat).Below 8 :=
    (hfrom_below _ _).mono (algoBits_le_of_configInRange wellFormed)
  simpa [encode] using exec_of_axesTransform (.hfrom sel q ab) hfrom s running (by simp [encode]) (by rw [ruleOf])
    (by simpa [encode] using below)

/-- Settles O60, by running the transforms. -/
theorem hilbertWorkedExamples : Obligations.HilbertWorkedExamples := by
  unfold Obligations.HilbertWorkedExamples
  decide

end Sys2Proof.Machine
end

section
/-! PROOFS. The statements of 41_hilbert_transform.md about the Hilbert curve (R96): the curve of a cube is eight turned
copies of the curve of half its side, one in each octant. -/

namespace Sys2Proof.Machine

/-! ### Octants -/

/-- The triple with the given bits at position `n` of its axes: the lowest corner of an octant of side `2^n`. -/
def octantCorner (n : Nat) (p q r : Bool) : Axes where
  x := 2 ^ n * p.toNat
  y := 2 ^ n * q.toNat
  z := 2 ^ n * r.toNat

theorem two_pow_mul_toNat_testBit (n : Nat) (b : Bool) : (2 ^ n * b.toNat).testBit n = b := by
  cases b <;> simp

theorem two_pow_mul_toNat_lt (n : Nat) (b : Bool) : 2 ^ n * b.toNat < 2 ^ (n + 1) := by
  cases b <;> simp [Nat.pow_succ]

theorem xor_two_pow_mul_toNat (n : Nat) (b c : Bool) :
    2 ^ n * b.toNat ^^^ 2 ^ n * c.toNat = 2 ^ n * (b ^^ c).toNat := by
  cases b <;> cases c <;> simp

/-- A bit at position `n` over a value below `2^n` adds up. -/
theorem xor_two_pow_mul_eq_add {n l : Nat} (hl : l < 2 ^ n) (b : Bool) :
    l ^^^ 2 ^ n * b.toNat = 2 ^ n * b.toNat + l := by
  apply Nat.eq_of_testBit_eq
  intro i
  rw [Nat.testBit_two_pow_mul_add _ hl, Nat.testBit_xor, Nat.testBit_two_pow_mul]
  by_cases low : i < n
  · simp [low, Nat.not_le_of_lt low]
  · rw [Nat.testBit_lt_two_pow (hl.trans_le (Nat.pow_le_pow_right (by decide) (Nat.le_of_not_lt low)))]
    simp [low, Nat.le_of_not_lt low]

theorem octantCorner_first_testBit (n : Nat) (p q r : Bool) : ((octantCorner n p q r).get .first).testBit n = p :=
  two_pow_mul_toNat_testBit n p

theorem octantCorner_second_testBit (n : Nat) (p q r : Bool) : ((octantCorner n p q r).get .second).testBit n = q :=
  two_pow_mul_toNat_testBit n q

theorem octantCorner_third_testBit (n : Nat) (p q r : Bool) : ((octantCorner n p q r).get .third).testBit n = r :=
  two_pow_mul_toNat_testBit n r

theorem octantCorner_clearBelow (n : Nat) (p q r : Bool) : (octantCorner n p q r).ClearBelow n :=
  ⟨Nat.mul_mod_right _ _, Nat.mul_mod_right _ _, Nat.mul_mod_right _ _⟩

theorem octantCorner_below (n : Nat) (p q r : Bool) : (octantCorner n p q r).Below (n + 1) :=
  ⟨two_pow_mul_toNat_lt n p, two_pow_mul_toNat_lt n q, two_pow_mul_toNat_lt n r⟩

theorem xor_octantCorner {n : Nat} {X : Axes} (hX : X.Below n) (p q r : Bool) :
    X.xor (octantCorner n p q r) =
      { x := 2 ^ n * p.toNat + X.x, y := 2 ^ n * q.toNat + X.y, z := 2 ^ n * r.toNat + X.z } := by
  obtain ⟨hx, hy, hz⟩ := hX
  simp only [Axes.xor, octantCorner, xor_two_pow_mul_eq_add, hx, hy, hz]

/-! ### What the last mask does to an octant -/

/-- The first axis runs the other way in a cube of side `2^n`. -/
def Axes.invert (n : Nat) (X : Axes) : Axes := X.xor (.onFirst (2 ^ n - 1))

/-- The first axis and axis `ix` change places. -/
def Axes.exchange (ix : AxisIx) (X : Axes) : Axes :=
  match ix with
  | .first => X
  | .second => { x := X.y, y := X.x, z := X.z }
  | .third => { x := X.z, y := X.y, z := X.x }

/-- How the mask `2^n` turns what lies below it, by bit `n` of axis `ix` (R92). -/
def Axes.turn (n : Nat) (ix : AxisIx) (bit : Bool) (X : Axes) : Axes := if bit then X.invert n else X.exchange ix

theorem Axes.invert_below {n : Nat} {X : Axes} (hX : X.Below n) : (X.invert n).Below n :=
  hX.xor (Axes.onFirst_below (Nat.sub_one_lt_of_lt (Nat.two_pow_pos n)))

theorem Axes.turn_below {n : Nat} (ix : AxisIx) (bit : Bool) {X : Axes} (hX : X.Below n) :
    (X.turn n ix bit).Below n := by
  cases bit with
  | true => exact Axes.invert_below hX
  | false =>
    obtain ⟨hx, hy, hz⟩ := hX
    cases ix
    · exact ⟨hx, hy, hz⟩
    · exact ⟨hy, hx, hz⟩
    · exact ⟨hz, hy, hx⟩

theorem xor_swapDelta {n : Nat} (ix : AxisIx) {X : Axes} (hX : X.Below n) :
    X.xor (swapDelta ix n X) = X.exchange ix := by
  obtain ⟨hx, hy, hz⟩ := hX
  have xy : (X.x ^^^ X.y) % 2 ^ n = X.x ^^^ X.y := Nat.mod_eq_of_lt (Nat.xor_lt_two_pow hx hy)
  have xz : (X.x ^^^ X.z) % 2 ^ n = X.x ^^^ X.z := Nat.mod_eq_of_lt (Nat.xor_lt_two_pow hx hz)
  cases ix <;> simp [Axes.xor, Axes.exchange, swapDelta, Axes.onFirst, xy, xz]

theorem exchangeAxis_octant {n : Nat} (ix : AxisIx) {X H : Axes} (hX : X.Below n) (clear : H.ClearBelow n) :
    exchangeAxis ix (2 ^ n) (X.xor H) = (X.turn n ix ((H.get ix).testBit n)).xor H := by
  rw [exchangeAxis_eq_xor, exchangeDelta, Axes.get_xor, Nat.testBit_xor, hX.get_testBit, Bool.false_xor,
    swapDelta_xor_of_clear ix X clear, Axes.xor_right_comm, Axes.turn]
  split
  · rw [Axes.invert]
  · rw [xor_swapDelta ix hX]

/-- How the mask `2^n` turns the octant with the bits `p q r` on its three axes, axes descending (R92). -/
def Axes.turnAll (n : Nat) (p q r : Bool) (X : Axes) : Axes := ((X.turn n .third r).turn n .second q).turn n .first p

theorem Axes.turnAll_below {n : Nat} (p q r : Bool) {X : Axes} (hX : X.Below n) : (X.turnAll n p q r).Below n :=
  Axes.turn_below _ _ (Axes.turn_below _ _ (Axes.turn_below _ _ hX))

theorem exchangeDescending_octant {n : Nat} {X : Axes} (hX : X.Below n) (p q r : Bool) :
    exchangeDescending (2 ^ n) (X.xor (octantCorner n p q r)) =
      (X.turnAll n p q r).xor (octantCorner n p q r) := by
  have clear := octantCorner_clearBelow n p q r
  have third := Axes.turn_below .third r hX
  have second := Axes.turn_below .second q third
  rw [exchangeDescending, exchangeAxis_octant _ hX clear, octantCorner_third_testBit,
    exchangeAxis_octant _ third clear, octantCorner_second_testBit,
    exchangeAxis_octant _ second clear, octantCorner_first_testBit, Axes.turnAll]

/-! ### The bits above a mask -/

theorem exchangeDescending_xor_of_clear {k : Nat} (X : Axes) {H : Axes} (clear : H.ClearBelow (k + 1)) :
    exchangeDescending (2 ^ k) (X.xor H) = (exchangeDescending (2 ^ k) X).xor H := by
  have low : H.ClearBelow k := clear.mono (Nat.le_succ k)
  have bit (ix : AxisIx) : (H.get ix).testBit k = false := clear.get_testBit ix (Nat.lt_succ_self k)
  rw [exchangeDescending, exchangeAxis_xor_of_clear _ low (bit _), exchangeAxis_xor_of_clear _ low (bit _),
    exchangeAxis_xor_of_clear _ low (bit _), exchangeDescending]

/-- The masks up to `2^m` leave every bit above `m` alone and do not read it. -/
theorem exchangeUp_xor_of_clear {m : Nat} (X : Axes) {H : Axes} (clear : H.ClearBelow (m + 1)) :
    exchangeUp m (X.xor H) = (exchangeUp m X).xor H := by
  induction m with
  | zero => rfl
  | succ m ih =>
    rw [exchangeUp, ih (clear.mono (Nat.le_succ _)), exchangeDescending_xor_of_clear _ clear, exchangeUp]

/-- A flip of the bit that the mask `2^k` reads from the first axis runs that axis the other way. -/
theorem exchangeAxis_first_flip (k : Nat) (X : Axes) :
    exchangeAxis .first (2 ^ k) (X.xor (octantCorner k true false false)) =
      (exchangeAxis .first (2 ^ k) X).invert (k + 1) := by
  have pos := Nat.two_pow_pos k
  have ones : 2 ^ (k + 1) - 1 = (2 ^ k - 1) ^^^ 2 ^ k := by
    have sum := xor_two_pow_mul_eq_add (Nat.sub_one_lt_of_lt pos) true
    rw [Bool.toNat_true, Nat.mul_one] at sum
    omega
  rw [exchangeAxis_eq_xor, exchangeAxis_eq_xor, Axes.invert, ones]
  cases bit : X.x.testBit k with
  | true =>
    simp [exchangeDelta, Axes.get, Axes.xor, octantCorner, bit, swapDelta, Axes.onFirst, Nat.xor_assoc]
  | false =>
    simp [exchangeDelta, Axes.get, Axes.xor, octantCorner, bit, swapDelta, Axes.onFirst, Nat.xor_comm,
      Nat.xor_left_comm]

theorem exchangeDescending_flip (k : Nat) (X : Axes) :
    exchangeDescending (2 ^ k) (X.xor (octantCorner k true false false)) =
      (exchangeDescending (2 ^ k) X).invert (k + 1) := by
  have clear := octantCorner_clearBelow k true false false
  rw [exchangeDescending, exchangeAxis_xor_of_clear _ clear (octantCorner_third_testBit k true false false),
    exchangeAxis_xor_of_clear _ clear (octantCorner_second_testBit k true false false), exchangeAxis_first_flip,
    exchangeDescending]

/-- A flip of the highest bit of the first axis runs that axis of the curve the other way. -/
theorem exchangeUp_flip (m : Nat) (X : Axes) :
    exchangeUp m (X.xor (octantCorner m true false false)) = (exchangeUp m X).invert (m + 1) := by
  cases m with
  | zero => rfl
  | succ m =>
    rw [exchangeUp, exchangeUp_xor_of_clear X (octantCorner_clearBelow (m + 1) true false false),
      exchangeDescending_flip, exchangeUp]

/-! ### The curve in an octant -/

theorem grayDecode_xor (X Y : Axes) : grayDecode (X.xor Y) = (grayDecode X).xor (grayDecode Y) := by
  simp only [grayDecode, Axes.xor, Nat.shiftRight_xor_distrib, Nat.xor_assoc, Nat.xor_left_comm]

/-- The Gray decode of an octant's bits gives its place in the cube, and folds the third bit into the first axis one
position lower (R92). -/
theorem grayDecode_octantCorner (m : Nat) (p q r : Bool) :
    grayDecode (octantCorner (m + 1) p q r) =
      (octantCorner m r false false).xor (octantCorner (m + 1) p (q ^^ p) (r ^^ q)) := by
  have half : (2 ^ (m + 1) * r.toNat) >>> 1 = 2 ^ m * r.toNat := by
    rw [Nat.shiftRight_eq_div_pow, Nat.pow_succ, Nat.mul_right_comm, Nat.pow_one, Nat.mul_div_cancel _ (by decide)]
  simp [grayDecode, octantCorner, Axes.xor, half, xor_two_pow_mul_toNat, Nat.xor_comm, Bool.xor_comm]

theorem exchangeUp_octantCorner (m : Nat) (r : Bool) (X : Axes) :
    exchangeUp m (X.xor (octantCorner m r false false)) =
      if r then (exchangeUp m X).invert (m + 1) else exchangeUp m X := by
  cases r with
  | true => exact exchangeUp_flip m X
  | false => simp [octantCorner, Axes.xor]

/-- How the curve of half the side lies in the octant that it reaches at the bits `p q r` of the distance: the folded
bit runs its first axis the other way, and the last mask turns it by the octant's place (R92). -/
def octantTurn (n : Nat) (p q r : Bool) (X : Axes) : Axes :=
  (if r then X.invert n else X).turnAll n p (q ^^ p) (r ^^ q)

theorem ite_invert_below {n : Nat} (r : Bool) {X : Axes} (hX : X.Below n) : (if r then X.invert n else X).Below n := by
  cases r
  · exact hX
  · exact Axes.invert_below hX

theorem octantTurn_below {n : Nat} (p q r : Bool) {X : Axes} (hX : X.Below n) : (octantTurn n p q r X).Below n :=
  Axes.turnAll_below _ _ _ (ite_invert_below r hX)

/-- Within the octant of the bits `p q r` the inverse transform is that of half the side, turned (R92). -/
theorem hfrom_octant {n : Nat} {X : Axes} (hX : X.Below n) (p q r : Bool) :
    hfrom (X.xor (octantCorner n p q r)) (n + 1) =
      (octantTurn n p q r (hfrom X n)).xor (octantCorner n p (q ^^ p) (r ^^ q)) := by
  have whole : (X.xor (octantCorner n p q r)).Below (n + 1) :=
    (hX.mono (Nat.le_succ n)).xor (octantCorner_below n p q r)
  cases n with
  | zero =>
    obtain ⟨hx, hy, hz⟩ := hX
    obtain rfl : X = { x := 0, y := 0, z := 0 } := by
      rw [Axes.mk.injEq]
      omega
    cases p <;> cases q <;> cases r <;> rfl
  | succ m =>
    rw [hfrom_of_below whole, grayDecode_xor, grayDecode_octantCorner, ← Axes.xor_assoc, exchangeUp,
      exchangeUp_xor_of_clear _ (octantCorner_clearBelow (m + 1) _ _ _), exchangeUp_octantCorner, ← hfrom_of_below hX,
      exchangeDescending_octant (ite_invert_below r (hfrom_below X _)), octantTurn]

/-! ### The curve point by point -/

/-- R96's `Pt(d, a)`. -/
def hilbertPoint (d a : Nat) : Axes := hfrom (ilEnc d a) a

theorem hilbertPoint_below (d a : Nat) : (hilbertPoint d a).Below a := hfrom_below _ a

theorem ilEnc_below (v n : Nat) : (ilEnc v n).Below n := ⟨gather_lt _ _, gather_lt _ _, gather_lt _ _⟩

theorem gather_congr {n : Nat} {f f' : Nat → Bool} (same : ∀ g < n, f g = f' g) : gather n f = gather n f' := by
  induction n with
  | zero => rfl
  | succ n ih => rw [gather, ih fun g hg => same g (by omega), same n (by omega), gather]

/-- One axis of the interleave: above the bits of the earlier groups stands a bit of the octant. -/
theorem gather_octant {n e : Nat} (he : e < 2 ^ (3 * n)) (o : Nat) {k : Nat} (hk : k < 3) :
    gather (n + 1) (fun g => (2 ^ (3 * n) * o + e).testBit (3 * g + k)) =
      2 ^ n * (o.testBit k).toNat + gather n fun g => e.testBit (3 * g + k) := by
  have low (g : Nat) (hg : g < n) : (2 ^ (3 * n) * o + e).testBit (3 * g + k) = e.testBit (3 * g + k) := by
    rw [Nat.testBit_two_pow_mul_add _ he, if_pos (by omega)]
  have top : (2 ^ (3 * n) * o + e).testBit (3 * n + k) = o.testBit k := by
    rw [Nat.testBit_two_pow_mul_add _ he, if_neg (by omega), Nat.add_sub_cancel_left]
  rw [gather, gather_congr low, top, Nat.add_comm, Nat.mul_comm]

/-- The three bits above `n` groups are those of the octant (R80). -/
theorem ilEnc_octant {n e : Nat} (he : e < 2 ^ (3 * n)) (o : Nat) :
    ilEnc (2 ^ (3 * n) * o + e) (n + 1) =
      (ilEnc e n).xor (octantCorner n (o.testBit 2) (o.testBit 1) (o.testBit 0)) := by
  rw [xor_octantCorner (ilEnc_below e n), Axes.mk.injEq]
  exact ⟨gather_octant he o (k := 2) (by decide), gather_octant he o (k := 1) (by decide),
    gather_octant he o (k := 0) (by decide)⟩

/-- The curve runs through the octants one after the other, in each along the curve of half the side, turned (R96). -/
theorem hilbertPoint_octant {n e : Nat} (he : e < 2 ^ (3 * n)) (o : Nat) :
    hilbertPoint (2 ^ (3 * n) * o + e) (n + 1) =
      (octantTurn n (o.testBit 2) (o.testBit 1) (o.testBit 0) (hilbertPoint e n)).xor
        (octantCorner n (o.testBit 2) (o.testBit 1 ^^ o.testBit 2) (o.testBit 0 ^^ o.testBit 1)) := by
  rw [hilbertPoint, ilEnc_octant he, hfrom_octant (ilEnc_below e n), hilbertPoint]

theorem hilbertPoint_zero (a : Nat) : hilbertPoint 0 a = { x := 0, y := 0, z := 0 } := by
  induction a with
  | zero => rfl
  | succ n ih =>
    have octant := hilbertPoint_octant (Nat.two_pow_pos (3 * n)) 0
    rw [ih] at octant
    simpa [octantTurn, Axes.turnAll, Axes.turn, Axes.exchange, octantCorner, Axes.xor] using octant

theorem hilbertPoint_last (a : Nat) : hilbertPoint (2 ^ (3 * a) - 1) a = { x := 2 ^ a - 1, y := 0, z := 0 } := by
  induction a with
  | zero => rfl
  | succ n ih =>
    have octant := hilbertPoint_octant (Nat.sub_one_lt_of_lt (Nat.two_pow_pos (3 * n))) 7
    have last : 2 ^ (3 * n) * 7 + (2 ^ (3 * n) - 1) = 2 ^ (3 * (n + 1)) - 1 := by
      rw [Nat.mul_add, Nat.pow_add]
      omega
    have ones := xor_two_pow_mul_eq_add (Nat.sub_one_lt_of_lt (Nat.two_pow_pos n)) true
    have top : 2 ^ n + (2 ^ n - 1) = 2 ^ (n + 1) - 1 := by
      have pos := Nat.two_pow_pos n
      omega
    rw [Bool.toNat_true, Nat.mul_one, top] at ones
    rw [ih, last] at octant
    simpa [octantTurn, Axes.turnAll, Axes.turn, Axes.invert, Axes.exchange, Axes.onFirst, octantCorner, Axes.xor,
      ones, Nat.testBit_eq_decide_div_mod_eq] using octant

/-! ### Neighbours -/

/-- The sum of the three axes' differences: 1 exactly for points that differ by 1 in one axis (R96). -/
def Axes.distance (X Y : Axes) : Nat :=
  ((Y.x : Int) - X.x).natAbs + ((Y.y : Int) - X.y).natAbs + ((Y.z : Int) - X.z).natAbs

theorem xor_ones {n l : Nat} (hl : l < 2 ^ n) : l ^^^ (2 ^ n - 1) = 2 ^ n - (l + 1) := by
  apply Nat.eq_of_testBit_eq
  intro i
  rw [Nat.testBit_two_pow_sub_succ hl, Nat.testBit_xor, Nat.testBit_two_pow_sub_one]
  by_cases low : i < n
  · simp [low]
  · simp [low, Nat.testBit_lt_two_pow (hl.trans_le (Nat.pow_le_pow_right (by decide) (Nat.le_of_not_lt low)))]

theorem Axes.distance_invert {n : Nat} {X Y : Axes} (hX : X.Below n) (hY : Y.Below n) :
    (X.invert n).distance (Y.invert n) = X.distance Y := by
  obtain ⟨hx, -, -⟩ := hX
  obtain ⟨hy, -, -⟩ := hY
  simp only [Axes.distance, Axes.invert, Axes.xor, Axes.onFirst, xor_ones hx, xor_ones hy, Nat.xor_zero]
  omega

theorem Axes.distance_turn {n : Nat} (ix : AxisIx) (bit : Bool) {X Y : Axes} (hX : X.Below n) (hY : Y.Below n) :
    (X.turn n ix bit).distance (Y.turn n ix bit) = X.distance Y := by
  cases bit with
  | true => exact Axes.distance_invert hX hY
  | false =>
    simp only [Axes.turn, Axes.exchange, Axes.distance]
    cases ix <;> simp <;> omega

theorem Axes.distance_turnAll {n : Nat} (p q r : Bool) {X Y : Axes} (hX : X.Below n) (hY : Y.Below n) :
    (X.turnAll n p q r).distance (Y.turnAll n p q r) = X.distance Y := by
  have thirdX := Axes.turn_below .third r hX
  have thirdY := Axes.turn_below .third r hY
  rw [Axes.turnAll, Axes.turnAll, Axes.distance_turn _ _ (Axes.turn_below _ _ thirdX) (Axes.turn_below _ _ thirdY),
    Axes.distance_turn _ _ thirdX thirdY, Axes.distance_turn _ _ hX hY]

/-- A turned cube keeps its distances. -/
theorem distance_octantTurn {n : Nat} (p q r : Bool) {X Y : Axes} (hX : X.Below n) (hY : Y.Below n) :
    (octantTurn n p q r X).distance (octantTurn n p q r Y) = X.distance Y := by
  rw [octantTurn, octantTurn, Axes.distance_turnAll _ _ _ (ite_invert_below r hX) (ite_invert_below r hY)]
  cases r with
  | false => rfl
  | true => exact Axes.distance_invert hX hY

/-- A moved cube keeps its distances. -/
theorem distance_xor_octantCorner {n : Nat} (p q r : Bool) {X Y : Axes} (hX : X.Below n) (hY : Y.Below n) :
    (X.xor (octantCorner n p q r)).distance (Y.xor (octantCorner n p q r)) = X.distance Y := by
  rw [xor_octantCorner hX, xor_octantCorner hY]
  simp only [Axes.distance]
  omega

/-- From the last point of an octant to the first of the next is one step (R96): at each of the seven borders the turned
ends of the curve of half the side lie face to face. -/
theorem distance_octant_border (n : Nat) {o : Nat} (ho : o < 7) :
    (hilbertPoint (2 ^ (3 * n) * o + (2 ^ (3 * n) - 1)) (n + 1)).distance
      (hilbertPoint (2 ^ (3 * n) * (o + 1) + 0) (n + 1)) = 1 := by
  have cells := Nat.two_pow_pos (3 * n)
  rw [hilbertPoint_octant (Nat.sub_one_lt_of_lt cells), hilbertPoint_octant cells,
    xor_octantCorner (octantTurn_below _ _ _ (hilbertPoint_below _ n)),
    xor_octantCorner (octantTurn_below _ _ _ (hilbertPoint_below _ n)), hilbertPoint_last, hilbertPoint_zero]
  interval_cases o <;>
    simp [octantTurn, Axes.turnAll, Axes.turn, Axes.invert, Axes.exchange, Axes.onFirst, Axes.xor, Axes.distance,
      Nat.testBit_eq_decide_div_mod_eq]

/-- Consecutive points of the curve are neighbours, in one octant by the curve of half the side and across a border by
its ends (R96). -/
theorem distance_hilbertPoint_succ (a : Nat) {d : Nat} (hd : d + 1 < 2 ^ (3 * a)) :
    (hilbertPoint d a).distance (hilbertPoint (d + 1) a) = 1 := by
  induction a generalizing d with
  | zero => simp at hd
  | succ n ih =>
    have cells := Nat.two_pow_pos (3 * n)
    have total : 2 ^ (3 * (n + 1)) = 2 ^ (3 * n) * 8 := by rw [Nat.mul_add, Nat.pow_add]
    obtain ⟨o, e, he, rfl⟩ : ∃ o e, e < 2 ^ (3 * n) ∧ d = 2 ^ (3 * n) * o + e :=
      ⟨d / 2 ^ (3 * n), d % 2 ^ (3 * n), Nat.mod_lt _ cells, (Nat.div_add_mod _ _).symm⟩
    by_cases inside : e + 1 < 2 ^ (3 * n)
    · have below (e : Nat) := octantTurn_below (o.testBit 2) (o.testBit 1) (o.testBit 0) (hilbertPoint_below e n)
      rw [Nat.add_assoc, hilbertPoint_octant he, hilbertPoint_octant inside,
        distance_xor_octantCorner _ _ _ (below _) (below _),
        distance_octantTurn _ _ _ (hilbertPoint_below _ n) (hilbertPoint_below _ n), ih inside]
    · obtain rfl : e = 2 ^ (3 * n) - 1 := by omega
      have next : 2 ^ (3 * n) * o + (2 ^ (3 * n) - 1) + 1 = 2 ^ (3 * n) * (o + 1) + 0 := by
        rw [Nat.mul_add]
        omega
      have more : 2 ^ (3 * n) * (o + 1) < 2 ^ (3 * n) * 8 := by omega
      have octant : o + 1 < 8 := Nat.lt_of_mul_lt_mul_left more
      rw [next]
      exact distance_octant_border n (by omega)

/-- Settles O27: for every `a`. -/
theorem hilbertCurveIsContinuous : Obligations.HilbertCurveIsContinuous := by
  intro a d _ _ hd
  exact distance_hilbertPoint_succ a hd

/-- Settles O26: the ends for every `a`, the first points by running the transform. -/
theorem hilbertCurveEnds : Obligations.HilbertCurveEnds := by
  refine ⟨fun a _ _ => ⟨hilbertPoint_zero a, hilbertPoint_last a⟩, ?_, ?_, ?_, ?_⟩
  · rintro a (rfl | rfl | rfl) <;> decide
  · rintro a (rfl | rfl) <;> decide
  · rintro a (rfl | rfl) <;> decide
  · decide

end Sys2Proof.Machine
end

section
/-! PROOFS. The statements of 42_hilbert_decoder.md: the five steps of the decoder in plain arithmetic, and the colours at
the grid points. -/

namespace Sys2Proof.Machine

/-! ### Step 1: split and re-centre (R101) -/

theorem gridSide_eq (a : Nat) : gridSide a = 2 ^ (8 - a) := Nat.one_shiftLeft _

theorem gridHalf_eq (a : Nat) : gridHalf a = 2 ^ (8 - a) / 2 := by
  rw [gridHalf, gridSide_eq, Nat.shiftRight_eq_div_pow, Nat.pow_one]

/-- Masking with `side - 1` is the remainder by the side, which is a power of two. -/
theorem and_gridSide_sub_one (c a : Nat) : c &&& (gridSide a - 1) = c % 2 ^ (8 - a) := by
  rw [gridSide_eq, Nat.and_two_pow_sub_one_eq_mod]

theorem fractionalOffset_eq (c a : Nat) :
    fractionalOffset c a =
      if 2 ^ (8 - a) / 2 < c % 2 ^ (8 - a) then ((c % 2 ^ (8 - a) : Nat) : Int) - (2 ^ (8 - a) : Nat)
      else (c % 2 ^ (8 - a) : Nat) := by
  rw [fractionalOffset, and_gridSide_sub_one, gridHalf_eq, gridSide_eq]

theorem coarseIndex_eq (c a : Nat) :
    coarseIndex c a =
      (if 2 ^ (8 - a) / 2 < c % 2 ^ (8 - a) then c + 2 ^ (8 - a) / 2 else c) / 2 ^ (8 - a) % 2 ^ a := by
  rw [coarseIndex, and_gridSide_sub_one, gridHalf_eq, Nat.shiftRight_eq_div_pow]

/-- A channel value on a grid line has no offset. -/
theorem fractionalOffset_gridLine (v a : Nat) : fractionalOffset (v * 2 ^ (8 - a)) a = 0 := by
  rw [fractionalOffset_eq, Nat.mul_mod_left, if_neg (Nat.not_lt_zero _), Nat.cast_zero]

/-- A channel value on a grid line has that line's index. -/
theorem coarseIndex_gridLine {v a : Nat} (hv : v < 2 ^ a) : coarseIndex (v * 2 ^ (8 - a)) a = v := by
  rw [coarseIndex_eq, Nat.mul_mod_left, if_neg (Nat.not_lt_zero _), Nat.mul_div_cancel _ (Nat.two_pow_pos _),
    Nat.mod_eq_of_lt hv]

/-! ### Step 2: the distance (R102) -/

/-- The colour at the grid point of curve distance `d`, its axes swapped to colour order, has the distance `d`: both the
transform and the network are undone (R86, R95). -/
theorem hilbertDistance_gridPoint {n d : Nat} (hd : d < 2 ^ (3 * (n + 1))) :
    let p := hilbertPoint d (n + 1)
    let side := 2 ^ (8 - (n + 1))
    hilbertDistance (p.z * side) (p.y * side) (p.x * side) (n + 1) = d := by
  intro p side
  obtain ⟨hx, hy, hz⟩ : p.Below (n + 1) := hilbertPoint_below d (n + 1)
  rw [hilbertDistance, coarseIndex_gridLine hx, coarseIndex_gridLine hy, coarseIndex_gridLine hz]
  have transform : hto p (n + 1) = ilEnc d (n + 1) := hto_hfrom (ilEnc_below d (n + 1))
  calc ilDec (hto p (n + 1)) (n + 1)
    _ = d % 2 ^ (3 * (n + 1)) := by rw [transform, ilDec_ilEnc]
    _ = d := Nat.mod_eq_of_lt hd

/-! ### Steps 3 and 4: the neighbours and the interpolation (R103, R104) -/

theorem signInt_eq_sign (v : Int) : signInt v = v.sign := by
  obtain neg | rfl | pos := Int.lt_trichotomy v 0
  · rw [signInt, if_pos neg, Int.sign_eq_neg_one_of_neg neg]
  · rfl
  · rw [signInt, if_neg pos.asymm, if_neg pos.ne', Int.sign_eq_one_of_pos pos]

/-- The accumulator, with the neighbours as points of R96's curve: the first and the third axis stand for B and R. -/
theorem hilbertAcc_eq (r g b q a : Nat) :
    let d : Int := hilbertDistance r g b a
    let near : Int → Axes := fun e => hilbertPoint (max 0 (min (2 ^ q - 1) e)).toNat a
    hilbertAcc r g b q a = d * (2 ^ (8 - a) : Nat) +
      fractionalOffset r a * Int.sign ((near (d + 1)).z - (near (d - 1)).z) +
      fractionalOffset g a * Int.sign ((near (d + 1)).y - (near (d - 1)).y) +
      fractionalOffset b a * Int.sign ((near (d + 1)).x - (near (d - 1)).x) := by
  intro d near
  rw [hilbertAcc, Nat.shiftLeft_eq, Nat.cast_mul, signInt_eq_sign, signInt_eq_sign, signInt_eq_sign]
  rfl

/-- Without offsets the curve's direction does not matter. -/
theorem hilbertAcc_gridPoint {n d : Nat} (hd : d < 2 ^ (3 * (n + 1))) (q : Nat) :
    let p := hilbertPoint d (n + 1)
    let side := 2 ^ (8 - (n + 1))
    hilbertAcc (p.z * side) (p.y * side) (p.x * side) q (n + 1) = (d : Int) * side := by
  intro p side
  have distance : hilbertDistance (p.z * side) (p.y * side) (p.x * side) (n + 1) = d := hilbertDistance_gridPoint hd
  have offset (v : Nat) : fractionalOffset (v * side) (n + 1) = 0 := fractionalOffset_gridLine v (n + 1)
  rw [hilbertAcc_eq, distance, offset, offset, offset]
  simp only [zero_mul, add_zero]
  rfl

/-! ### Step 5: the output (R105, R16) -/

/-- A decoded value as `RESULT` shows it: its remainder by `2^16`, also for a negative value (R16, R65). -/
theorem packDepth_ofInt (v : Int) : packDepth (BitVec.ofInt 16 v) = BitVec.ofNat 24 (v % 65536).toNat := by
  apply BitVec.eq_of_toNat_eq
  rw [packDepth, BitVec.toNat_setWidth, BitVec.toNat_ofInt, BitVec.toNat_ofNat]
  rfl

/-- The three channels of an operand are its three bytes (R64). -/
theorem channelOperands_eq (opnd : Word24) :
    firstOperand opnd = opnd.toNat / 65536 ∧ secondOperand opnd = opnd.toNat / 256 % 256 ∧
      thirdOperand opnd = opnd.toNat % 256 :=
  Axes.mk.inj (axesOperand_eq opnd)

/-- A running DECODE.hilbert completes with the decoder's value of its three channels (R100, R131). -/
theorem exec_decodeHilbert (q : BitVec 5) (ab : BitVec 4) (s : State) (running : s.running (.decodeHilbert q ab)) :
    exec (.decodeHilbert q ab) s = .next (s.yield.complete (packDepth (hilbertDepth (firstOperand s.actOpnd)
      (secondOperand s.actOpnd) (thirdOperand s.actOpnd) q.toNat ab.toNat))) := by
  rw [exec_of_singleResult _ _ s running (by simp [encode]) (by rw [ruleOf]), encode, qField_commandWord,
    abField_commandWord, decodeColour]

/-! ### The statements -/

/-- Settles O28: the five steps, one lemma for each. -/
theorem decodeHilbertInterpolates : Obligations.DecodeHilbertInterpolates := by
  intro q ab s running r g b a side offset coarse d near acc
  obtain ⟨hr, hg, hb⟩ := channelOperands_eq s.actOpnd
  have split (c : Nat) : fractionalOffset c a = offset c := fractionalOffset_eq c a
  have distance : (hilbertDistance r g b a : Int) = d := by
    rw [hilbertDistance, coarseIndex_eq, coarseIndex_eq, coarseIndex_eq]
  have interpolated : hilbertAcc r g b q.toNat a = acc := by
    rw [hilbertAcc_eq, distance, split, split, split]
    rfl
  rw [exec_decodeHilbert q ab s running, hr, hg, hb, hilbertDepth, packDepth_ofInt, hilbertScaled, interpolated]
  rfl

/-- Settles O29: a colour at a grid point has no offsets, so its value is its distance, scaled. -/
theorem hilbertGridColoursAreEvenlySpaced : Obligations.HilbertGridColoursAreEvenlySpaced := by
  intro a q d ha _ _ _ hd side p
  obtain ⟨n, rfl⟩ := Nat.exists_eq_add_of_le' ha
  exact congrArg (· * (2 : Int) ^ (16 - q)) (hilbertAcc_gridPoint hd q)

end Sys2Proof.Machine
end

section
/-! PROOFS. The statements of 43_planar_decoders.md: each decoder's value in plain arithmetic, within the range of a
depth, and the effect of its DECODE command. -/

namespace Sys2Proof.Machine

/-! ### A running DECODE command -/

/-- A running DECODE command completes with its algorithm's depth of the operand's three bytes (R64, R65, R130,
R131). -/
theorem exec_decodeCommand (algo : AlgorithmId) (q : BitVec 5) (ab : BitVec 4) (s : State)
    (running : s.running (decodeCommand algo q ab)) :
    exec (decodeCommand algo q ab) s = .next (s.yield.complete (packDepth (decodeColour algo (s.actOpnd.toNat / 65536)
      (s.actOpnd.toNat / 256 % 256) (s.actOpnd.toNat % 256) q.toNat ab.toNat))) := by
  have fields : opField (encode (decodeCommand algo q ab)) = 0x7#4 ∧ qField (encode (decodeCommand algo q ab)) = q ∧
      abField (encode (decodeCommand algo q ab)) = ab := by
    cases algo <;> simp [decodeCommand, encode]
  have rule : ruleOf (decodeCommand algo q ab) = singleResult fun opnd q a =>
      packDepth (decodeColour algo (firstOperand opnd) (secondOperand opnd) (thirdOperand opnd) q a) := by
    cases algo <;> rfl
  obtain ⟨op, hq, hab⟩ := fields
  obtain ⟨hr, hg, hb⟩ := channelOperands_eq s.actOpnd
  rw [exec_of_singleResult _ _ s running (by simp [op]) rule, hq, hab, hr, hg, hb]

/-- A depth given as a number, as `RESULT` shows it (R16, R65). -/
theorem packDepth_ofNat (v : Nat) : packDepth (BitVec.ofNat 16 v) = BitVec.ofNat 24 (v % 65536) := by
  rw [← BitVec.ofInt_natCast, packDepth_ofInt]
  rfl

/-- The whole effect of a running DECODE command whose decoder gives the number `v` without wrap. -/
theorem exec_decodeCommand_of_depth (algo : AlgorithmId) (q : BitVec 5) (ab : BitVec 4) (s : State)
    (running : s.running (decodeCommand algo q ab)) {v : Nat} (fits : v < 65536)
    (depth : decodeColour algo (s.actOpnd.toNat / 65536) (s.actOpnd.toNat / 256 % 256) (s.actOpnd.toNat % 256) q.toNat
      ab.toNat = BitVec.ofNat 16 v) :
    exec (decodeCommand algo q ab) s = .next
      { s.yield with result := BitVec.ofNat 24 v, abortReq := false, run := .done } := by
  rw [exec_decodeCommand algo q ab s running, depth, packDepth_ofNat, Nat.mod_eq_of_lt fits]
  rfl

/-- The first byte of an operand is a channel value. -/
theorem firstChannel_lt (opnd : Word24) : opnd.toNat / 65536 < 256 := by omega

theorem quantization_bounds_of_configInRange {q : BitVec 5} {ab : BitVec 4} (h : Instr.configInRange q ab = true) :
    ab.toNat ≤ q.toNat ∧ q.toNat ≤ 16 := by
  simp only [Instr.configInRange, Bool.and_eq_true, decide_eq_true_eq] at h
  obtain ⟨⟨⟨-, le⟩, -⟩, order⟩ := h
  exact ⟨order, le⟩

/-- A number of `quantization` bits, shifted up to 16 bits, does not wrap. -/
theorem mul_two_pow_lt_depth {v q : Nat} (hv : v < 2 ^ q) (hq : q ≤ 16) : v * 2 ^ (16 - q) < 65536 := calc
  v * 2 ^ (16 - q) < 2 ^ q * 2 ^ (16 - q) := Nat.mul_lt_mul_of_pos_right hv (Nat.two_pow_pos _)
  _ = 2 ^ 16 := by rw [← pow_add, Nat.add_sub_cancel' hq]

/-! ### Morton (R112) -/

/-- A number reduced to 16 bits in `RESULT`, bit by bit (R16, R65). -/
theorem packDepth_ofNat_getLsbD (v : Nat) {p : Nat} (hp : p < 24) :
    (packDepth (BitVec.ofNat 16 v)).getLsbD p = (decide (p < 16) && v.testBit p) := by
  rw [packDepth, BitVec.getLsbD_setWidth, BitVec.getLsbD_ofNat, decide_eq_true hp, Bool.true_and]

/-- Settles O30: bit `p` below 16 is in one of the six groups of the inverse network. -/
theorem decodeMortonInterleavesChannels : Obligations.DecodeMortonInterleavesChannels := by
  intro q ab s running
  refine ⟨_, exec_decodeCommand .morton q ab s running, fun p hp => ?_⟩
  rw [decodeColour, mortonDepth, packDepth_ofNat_getLsbD _ hp, ← axesOperand_eq]
  obtain low | high := Nat.lt_or_ge p 16
  · obtain ⟨x, y, z⟩ := axesOperand_testBit s.actOpnd (g := p / 3) (by omega)
    have group : p < 3 * 6 := by omega
    obtain h | h | h : p % 3 = 0 ∨ p % 3 = 1 ∨ p % 3 = 2 := by omega
    · simp [ilDec_testBit, group, h, z]
    · simp [ilDec_testBit, group, h, y]
    · simp [ilDec_testBit, group, h, x]
  · rw [decide_eq_false high.not_gt, Bool.false_and, Bool.false_and]

/-! ### Packed and split (R113, R114) -/

theorem packed_bounds_of_wellFormed {q : BitVec 5} {ab : BitVec 4}
    (h : (Instr.configInRange q ab && Instr.lowPartInRange q ab) = true) :
    ab.toNat ≤ 8 ∧ ab.toNat ≤ q.toNat ∧ q.toNat ≤ 16 ∧ q.toNat - ab.toNat ≤ 8 := by
  obtain ⟨config, low⟩ := Bool.and_eq_true_iff.mp h
  obtain ⟨order, le⟩ := quantization_bounds_of_configInRange config
  exact ⟨algoBits_le_of_configInRange config, order, le, of_decide_eq_true low⟩

/-- The top `n` bits of a channel value are below `2^n`. -/
theorem channel_div_lt {c n : Nat} (hc : c < 256) (hn : n ≤ 8) : c / 2 ^ (8 - n) < 2 ^ n := by
  apply Nat.div_lt_of_lt_mul
  rwa [← pow_add, Nat.sub_add_cancel hn]

/-- A high part and a low part within their widths make a depth without wrap. -/
theorem joinParts_lt {high low q a : Nat} (hhigh : high < 2 ^ a) (hlow : low < 2 ^ (q - a)) (haq : a ≤ q)
    (hq : q ≤ 16) : (high * 2 ^ (q - a) + low) * 2 ^ (16 - q) < 65536 := by
  have joined : high * 2 ^ (q - a) + low < 2 ^ q := calc
    high * 2 ^ (q - a) + low < (high + 1) * 2 ^ (q - a) := by rw [Nat.succ_mul]; omega
    _ ≤ 2 ^ a * 2 ^ (q - a) := Nat.mul_le_mul_right _ hhigh
    _ = 2 ^ q := by rw [← pow_add, Nat.add_sub_cancel' haq]
  exact mul_two_pow_lt_depth joined hq

theorem highPart_eq (r a : Nat) : highPart r a = r / 2 ^ (8 - a) := Nat.shiftRight_eq_div_pow _ _

theorem lowPart_eq (g q a : Nat) : lowPart g q a = g / 2 ^ (8 - (q - a)) := Nat.shiftRight_eq_div_pow _ _

theorem packedValue_eq (r g q a : Nat) :
    packedValue r g q a = (highPart r a * 2 ^ (q - a) + lowPart g q a) * 2 ^ (16 - q) := by
  rw [packedValue, Nat.shiftLeft_eq, Nat.shiftLeft_eq]

theorem splitLow_eq (r g q a : Nat) :
    splitLow r g q a = if highPart r a % 2 = 1 then 2 ^ (q - a) - lowPart g q a - 1 else lowPart g q a := by
  simp only [splitLow, Nat.testBit_zero, decide_eq_true_eq]

theorem splitValue_eq (r g q a : Nat) :
    splitValue r g q a = (highPart r a * 2 ^ (q - a) + splitLow r g q a) * 2 ^ (16 - q) := by
  rw [splitValue, Nat.shiftLeft_eq, Nat.shiftLeft_eq]

theorem highPart_lt {r a : Nat} (hr : r < 256) (ha : a ≤ 8) : highPart r a < 2 ^ a := by
  rw [highPart_eq]
  exact channel_div_lt hr ha

theorem lowPart_lt {g q a : Nat} (hg : g < 256) (hqa : q - a ≤ 8) : lowPart g q a < 2 ^ (q - a) := by
  rw [lowPart_eq]
  exact channel_div_lt hg hqa

/-- Reflecting the low part keeps it within its width. -/
theorem splitLow_lt {g q a : Nat} (r : Nat) (hg : g < 256) (hqa : q - a ≤ 8) : splitLow r g q a < 2 ^ (q - a) := by
  have low := lowPart_lt hg hqa
  rw [splitLow_eq]
  split <;> omega

/-- Settles O31: the two parts fill at most `quantization` bits. -/
theorem decodePackedJoinsTheParts : Obligations.DecodePackedJoinsTheParts := by
  intro q ab s running high low depth
  have ⟨_, _, _, wellFormed⟩ := running
  obtain ⟨ha, haq, hq, hqa⟩ := packed_bounds_of_wellFormed wellFormed
  have fits : depth < 65536 :=
    joinParts_lt (channel_div_lt (firstChannel_lt s.actOpnd) ha) (channel_div_lt (Nat.mod_lt _ (by decide)) hqa) haq hq
  refine ⟨fits, exec_decodeCommand_of_depth .packed q ab s running fits ?_⟩
  rw [decodeColour, packedDepth, packedValue_eq, highPart_eq, lowPart_eq]

/-- Settles O32: as O31, with the reflected low part. -/
theorem decodeSplitReflectsOddRows : Obligations.DecodeSplitReflectsOddRows := by
  intro q ab s running high raw low depth
  have ⟨_, _, _, wellFormed⟩ := running
  obtain ⟨ha, haq, hq, hqa⟩ := packed_bounds_of_wellFormed wellFormed
  have value : splitValue (s.actOpnd.toNat / 65536) (s.actOpnd.toNat / 256 % 256) q.toNat ab.toNat = depth := by
    rw [splitValue_eq, splitLow_eq, highPart_eq, lowPart_eq]
  have fits : depth < 65536 := by
    rw [← value, splitValue_eq]
    exact joinParts_lt (highPart_lt (firstChannel_lt s.actOpnd) ha) (splitLow_lt _ (Nat.mod_lt _ (by decide)) hqa) haq
      hq
  refine ⟨fits, exec_decodeCommand_of_depth .split q ab s running fits ?_⟩
  rw [decodeColour, splitDepth, value]

/-- The red value at the start of row `h` has the high part `h`. -/
theorem highPart_rowStart (h a : Nat) : highPart (h * 2 ^ (8 - a)) a = h := by
  rw [highPart_eq, Nat.mul_div_cancel _ (Nat.two_pow_pos _)]

theorem lowPart_zero (q a : Nat) : lowPart 0 q a = 0 := by rw [lowPart_eq, Nat.zero_div]

/-- The top `n` bits of 255 are all ones. -/
theorem lowPart_255 {q a : Nat} (hqa : q - a ≤ 8) : lowPart 255 q a = 2 ^ (q - a) - 1 := by
  have ones : ∀ n ≤ 8, 255 / 2 ^ (8 - n) = 2 ^ n - 1 := by decide
  rw [lowPart_eq, ones _ hqa]

/-- Settles O33: the row `h` ends at the low part `2^(q - a) - 1`, and the row `h + 1` starts at 0. -/
theorem splitIsContinuousAcrossRows : Obligations.SplitIsContinuousAcrossRows := by
  intro q a h _ _ _ _ hqa _ g
  have width : 0 < 2 ^ (q - a) := Nat.two_pow_pos _
  have ends : splitLow (h * 2 ^ (8 - a)) g q a + 1 = 2 ^ (q - a) ∧ splitLow ((h + 1) * 2 ^ (8 - a)) g q a = 0 := by
    rw [splitLow_eq, splitLow_eq, highPart_rowStart, highPart_rowStart]
    obtain even | odd := Nat.mod_two_eq_zero_or_one h
    · have next : (h + 1) % 2 = 1 := by omega
      have last : g = 255 := if_pos even
      rw [if_neg (by omega), if_pos next, last, lowPart_255 hqa]
      omega
    · have next : ¬ (h + 1) % 2 = 1 := by omega
      have first : g = 0 := if_neg (by omega)
      rw [if_pos odd, if_neg next, first, lowPart_zero]
      omega
  obtain ⟨rowEnd, rowStart⟩ := ends
  rw [splitValue_eq, splitValue_eq, highPart_rowStart, highPart_rowStart, rowStart]
  calc ((h + 1) * 2 ^ (q - a) + 0) * 2 ^ (16 - q)
    _ = (h * 2 ^ (q - a) + (splitLow (h * 2 ^ (8 - a)) g q a + 1)) * 2 ^ (16 - q) := by rw [rowEnd]; ring
    _ = (h * 2 ^ (q - a) + splitLow (h * 2 ^ (8 - a)) g q a) * 2 ^ (16 - q) + 2 ^ (16 - q) := by ring

/-! ### Triangle (R115, R116) -/

/-- The period index is the rational formula's: `512·R/255 - 1/2` has the floor `(1024·R - 255) // 510` (R115). -/
theorem trianglePeriod_eq_floor (r : Nat) :
    (trianglePeriod r : Int) =
      ⌊4 * ((r : ℚ) / 255 / (512 / 65536)) - (if (0 : ℚ) < r / 255 then 1 / 2 else 0)⌋ % 4 := by
  obtain rfl | pos := Nat.eq_zero_or_pos r
  · simp [trianglePeriod]
  · have positive : (0 : ℚ) < r / 255 := by positivity
    have numerator : ((1024 * r - 255 : Nat) : ℚ) = 1024 * r - 255 := by
      rw [Nat.cast_sub (by omega)]; norm_num
    have argument : 4 * ((r : ℚ) / 255 / (512 / 65536)) - 1 / 2 = ((1024 * r - 255 : Nat) : ℚ) / (510 : Nat) := by
      rw [numerator]; push_cast; ring
    rw [if_pos positive, argument, Rat.floor_natCast_div_natCast, trianglePeriod, if_neg pos.ne']
    norm_cast

theorem trianglePeriod_lt (r : Nat) : trianglePeriod r < 4 := by
  rw [trianglePeriod]
  split <;> omega

/-- The auxiliary channel that the period index selects, normalised by 255 (R115, R116). -/
theorem triangleAux_div {r g b : Nat} (hg : g < 256) (hb : b < 256) :
    (triangleAux r g b : ℚ) / 255 =
      if (trianglePeriod r : Int) = 0 then (g : ℚ) / 255 else if (trianglePeriod r : Int) = 1 then (b : ℚ) / 255
      else if (trianglePeriod r : Int) = 2 then 1 - (g : ℚ) / 255 else 1 - (b : ℚ) / 255 := by
  have complement {c : Nat} (hc : c < 256) : ((255 - c : Nat) : ℚ) / 255 = 1 - (c : ℚ) / 255 := by
    rw [Nat.cast_sub (by omega)]; push_cast; ring
  have bound := trianglePeriod_lt r
  rw [triangleAux]
  generalize trianglePeriod r = m at bound
  obtain rfl | rfl | rfl | rfl : m = 0 ∨ m = 1 ∨ m = 2 ∨ m = 3 := by omega
  · simp
  · simp
  · simp [complement hg]
  · simp [complement hb]

theorem triangleAux_lt {g b : Nat} (r : Nat) (hg : g < 256) (hb : b < 256) : triangleAux r g b < 256 := by
  rw [triangleAux]
  split <;> omega

/-- Settles O34: the literal base level is `(p/4)·m`, and the floor of a quotient of naturals is their `//`. -/
theorem decodeTriangleIsTheRationalFormula : Obligations.DecodeTriangleIsTheRationalFormula := by
  intro q ab s running p ld ha hb m base delta
  let r := s.actOpnd.toNat / 65536
  let g := s.actOpnd.toNat / 256 % 256
  let b := s.actOpnd.toNat % 256
  have hg : g < 256 := Nat.mod_lt _ (by decide)
  have hbl : b < 256 := Nat.mod_lt _ (by decide)
  have period : m = (trianglePeriod r : Int) := (trianglePeriod_eq_floor r).symm
  have correction : delta = p / 2 * ((triangleAux r g b : ℚ) / 255) := by
    rw [triangleAux_div hg hbl, ← period]
  have argument : (base + delta) * 65536 =
      ((128 * trianglePeriod r * 255 + 256 * triangleAux r g b : Nat) : ℚ) / (255 : Nat) := by
    rw [correction]
    simp only [base, p, period]
    push_cast
    ring
  have floor : ⌊(base + delta) * 65536⌋.toNat = 128 * trianglePeriod r + 256 * triangleAux r g b / 255 := by
    rw [argument, Rat.floor_natCast_div_natCast]
    norm_cast
    omega
  have fits : 128 * trianglePeriod r + 256 * triangleAux r g b / 255 < 65536 := by
    have := trianglePeriod_lt r
    have := triangleAux_lt r hg hbl
    omega
  rw [floor]
  exact exec_decodeCommand_of_depth .triangle q ab s running fits rfl

/-! ### Phase (R118, R119) -/

/-- `PHASE_ROM` falls strictly, within and across the sixteen printed rows (R119). -/
theorem phaseRom_succ_lt {c : Nat} (hc : c < 255) : phaseRom (c + 1) < phaseRom c := by
  have rows : ∀ i < 16, ∀ j < 16, 16 * i + j < 255 → phaseRom (16 * i + j + 1) < phaseRom (16 * i + j) := by decide
  simpa [Nat.div_add_mod, hc] using rows (c / 16) (by omega) (c % 16) (by omega)

/-- Entries at complementary channel values complement each other (R119). -/
theorem phaseRom_add_complement {c : Nat} (hc : c < 256) : phaseRom c + phaseRom (255 - c) = 8192 := by
  have rows : ∀ i < 16, ∀ j < 16, phaseRom (16 * i + j) + phaseRom (255 - (16 * i + j)) = 8192 := by decide
  simpa [Nat.div_add_mod] using rows (c / 16) (by omega) (c % 16) (by omega)

theorem phaseRom_le {c : Nat} (hc : c < 256) : phaseRom c ≤ 8192 :=
  Nat.le.intro (phaseRom_add_complement hc)

/-- `Z` with the parity of `gamma` as a remainder (R118). -/
theorem phaseZ_eq (r g : Nat) :
    phaseZ r g = if g * 65535 / 8192 % 2 = 1 then 16384 * (((g : Int) * 65535 + 8192) / 16384) - phaseRom r
      else 16384 * (((g : Int) * 65535 + 8192) / 16384) + phaseRom r := by
  simp only [phaseZ, phaseGamma, phaseWraps, Nat.testBit_zero, decide_eq_true_eq]
  push_cast
  rfl

/-- `Z` is negated only from `G = 1` on, where it is at least three periods (R118). -/
theorem phaseZ_nonneg {r : Nat} (hr : r < 256) (g : Nat) : 0 ≤ phaseZ r g := by
  have rom := phaseRom_le hr
  rw [phaseZ_eq]
  split
  next odd =>
    have positive : g ≠ 0 := by rintro rfl; contradiction
    omega
  next => omega

/-- From `G = 2` on, eight periods saturate the depth (R118). -/
theorem phaseZ_saturated {r g : Nat} (hr : r < 256) (hg : 2 ≤ g) : 65535 ≤ phaseZ r g := by
  have rom := phaseRom_le hr
  rw [phaseZ_eq]
  split <;> omega

/-- A running DECODE.phase completes with `Z`, clamped from above only (R118). -/
theorem exec_decodePhase (q : BitVec 5) (ab : BitVec 4) (s : State) (running : s.running (.decodePhase q ab)) :
    exec (.decodePhase q ab) s = .next
      { s.yield with
        result := BitVec.ofNat 24 (min 65535 (phaseZ (s.actOpnd.toNat / 65536) (s.actOpnd.toNat / 256 % 256))).toNat,
        abortReq := false, run := .done } := by
  have nonneg := phaseZ_nonneg (firstChannel_lt s.actOpnd) (s.actOpnd.toNat / 256 % 256)
  refine exec_decodeCommand_of_depth .phase q ab s running (by omega) ?_
  rw [decodeColour, phaseDepth, max_eq_right (by omega), ← BitVec.ofInt_natCast, Int.toNat_of_nonneg (by omega)]

/-- Settles O35: `Z` by its bounds, the facts of the ROM from its table. -/
theorem decodePhaseUnwrapsAndClamps : Obligations.DecodePhaseUnwrapsAndClamps := by
  refine ⟨?_, by decide, fun _ hc => phaseRom_succ_lt hc, fun _ hc => ⟨phaseRom_le hc, phaseRom_add_complement hc⟩⟩
  intro q ab s running r g wraps z
  have hr : r < 256 := firstChannel_lt s.actOpnd
  have value : phaseZ r g = z := phaseZ_eq r g
  rw [← value]
  exact ⟨phaseZ_nonneg hr g, phaseZ_saturated hr, exec_decodePhase q ab s running⟩

/-! ### Hue (R120, R121) -/

/-- The raw metric of channel values (R120). -/
theorem hueRaw_bounds {r g b : Nat} (hr : r < 256) (hg : g < 256) (hb : b < 256) :
    0 ≤ hueRaw r g b ∧ hueRaw r g b ≤ 1528 := by
  rw [hueRaw]
  split_ifs <;> omega

/-- A raw metric below 1529 rescales to `quantization` bits (R121). -/
theorem hueQuantized_lt {r g b : Nat} (q : Nat) (hr : r < 256) (hg : g < 256) (hb : b < 256) :
    hueQuantized r g b q < 2 ^ q := by
  obtain ⟨-, le⟩ := hueRaw_bounds hr hg hb
  have raw : (hueRaw r g b).toNat ≤ 1529 := by omega
  have top : hueQuantized r g b q ≤ 2 ^ q - 1 := by
    rw [hueQuantized]
    exact Nat.div_le_of_le_mul (Nat.mul_le_mul_right _ raw)
  have := Nat.two_pow_pos q
  omega

/-- The rescaling of a non-negative raw metric in the integers (R121). -/
theorem hueQuantized_cast {r g b : Nat} (q : Nat) (nonneg : 0 ≤ hueRaw r g b) :
    (hueQuantized r g b q : Int) = hueRaw r g b * (2 ^ q - 1) / 1529 := by
  rw [hueQuantized, Int.natCast_ediv, Int.natCast_mul, Int.toNat_of_nonneg nonneg, Nat.cast_pred (Nat.two_pow_pos q),
    Nat.cast_pow]
  rfl

/-- The hue decoder's output as a number: the near-black rule, or the rescaled metric shifted up (R120, R121). -/
def hueNumber (r g b q : Nat) : Nat := if r + g + b < 255 then 0 else hueQuantized r g b q * 2 ^ (16 - q)

theorem hueDepth_eq (r g b q : Nat) : hueDepth r g b q = BitVec.ofNat 16 (hueNumber r g b q) := by
  rw [hueDepth, hueNumber, Nat.shiftLeft_eq]
  split <;> rfl

theorem hueNumber_lt {r g b q : Nat} (hq : q ≤ 16) (hr : r < 256) (hg : g < 256) (hb : b < 256) :
    hueNumber r g b q < 65536 := by
  rw [hueNumber]
  split
  · decide
  · exact mul_two_pow_lt_depth (hueQuantized_lt q hr hg hb) hq

theorem hueNumber_cast {r g b : Nat} (q : Nat) (nonneg : 0 ≤ hueRaw r g b) :
    (hueNumber r g b q : Int) =
      if (r : Int) + g + b < 255 then 0 else hueRaw r g b * (2 ^ q - 1) / 1529 * 2 ^ (16 - q) := by
  rw [hueNumber, Nat.cast_ite, Nat.cast_mul, hueQuantized_cast q nonneg, Nat.cast_pow]
  norm_cast

/-- Settles O36: the metric's range bounds its rescaling. -/
theorem decodeHueRescalesTheSextants : Obligations.DecodeHueRescalesTheSextants := by
  intro q ab s running r g b raw depth
  have ⟨_, _, _, wellFormed⟩ := running
  obtain ⟨-, hq⟩ := quantization_bounds_of_configInRange wellFormed
  have hr : s.actOpnd.toNat / 65536 < 256 := firstChannel_lt s.actOpnd
  have hg : s.actOpnd.toNat / 256 % 256 < 256 := Nat.mod_lt _ (by decide)
  have hb : s.actOpnd.toNat % 256 < 256 := Nat.mod_lt _ (by decide)
  have metric : hueRaw (s.actOpnd.toNat / 65536) (s.actOpnd.toNat / 256 % 256) (s.actOpnd.toNat % 256) = raw := by
    simp only [hueRaw, raw, r, g, b, ge_iff_le, Nat.cast_le]
  obtain ⟨nonneg, le⟩ := hueRaw_bounds hr hg hb
  have value := hueNumber_cast q.toNat nonneg
  have fits := hueNumber_lt hq hr hg hb
  rw [metric] at nonneg le value
  rw [show depth = hueNumber _ _ _ q.toNat from value.symm]
  exact ⟨nonneg, le, by exact_mod_cast fits,
    exec_decodeCommand_of_depth .hue q ab s running fits (hueDepth_eq _ _ _ _)⟩

end Sys2Proof.Machine
end

section
/-! PROOFS. The statements of 44_table_builder.md: the BUILD step, the run of a whole build, and the abort. -/

namespace Sys2Proof.Machine

/-! ### A running BUILD command -/

/-- The number of the cell that a BUILD writes next (R46, R135). -/
def State.cell (s : State) : Nat := cellNumber s.i.toNat s.j.toNat s.k.toNat

/-- The last cell's number (R135). -/
theorem cellNumber_last : cellNumber 254 254 254 = 16581374 := rfl

/-- The latches of a running BUILD are the command's fields (R23, R24). -/
theorem latches_of_running_build {sel : BitVec 3} {q : BitVec 5} {ab : BitVec 4} {s : State}
    (running : s.running (.build sel q ab)) : s.actOp = 0x8#4 ∧ s.actSel = sel ∧ s.actQ = q ∧ s.actAb = ab := by
  obtain ⟨-, -, word, -⟩ := running
  simpa [encode] using (latchedWord_eq_iff s (encode (.build sel q ab))).mp word

/-- A BUILD that acceptance let through names one of the seven algorithms (R153). -/
theorem exists_algorithm_of_running_build {sel : BitVec 3} {q : BitVec 5} {ab : BitVec 4} {s : State}
    (running : s.running (.build sel q ab)) : ∃ algo, algorithmOf sel = some algo := by
  obtain ⟨-, -, -, wellFormed⟩ := running
  have passed := (check_encode_eq_none_iff (.build sel q ab) (by simp [encode])).mpr wellFormed
  simp only [encode, opField_commandWord, selField_commandWord] at passed
  exact check_none_algorithm _ _ _ _ passed (.inr rfl)

/-- The depth that a running BUILD writes is the command's own (R23, R134). -/
theorem cellDepth_of_running {sel : BitVec 3} {q : BitVec 5} {ab : BitVec 4} {s : State} (algo : AlgorithmId)
    (running : s.running (.build sel q ab)) :
    s.cellDepth algo = decodeColour algo s.i.toNat s.j.toNat s.k.toNat q.toNat ab.toNat := by
  obtain ⟨-, -, hq, hab⟩ := latches_of_running_build running
  rw [State.cellDepth, hq, hab]

theorem abortDue_eq_false_iff (s : State) : s.abortDue = false ↔ ¬(s.abortReq = true ∧ s.k = 0) := by
  simp [State.abortDue]

/-- The step of a running BUILD that takes no abort writes its cell (R134). -/
theorem exec_build_cell {sel : BitVec 3} {q : BitVec 5} {ab : BitVec 4} {algo : AlgorithmId} {s : State}
    (running : s.running (.build sel q ab)) (algorithm : algorithmOf sel = some algo)
    (noAbort : ¬(s.abortReq = true ∧ s.k = 0)) :
    exec (.build sel q ab) s = .next (s.yield.buildCell algo) := by
  obtain ⟨-, hsel, -, -⟩ := latches_of_running_build running
  have notDue : s.yield.abortDue = false := by rwa [yield_abortDue, abortDue_eq_false_iff]
  rw [exec_of_running _ s running (by simp [encode]), ruleOf]
  simp [buildStep, notDue, hsel, algorithm]

/-- Every BUILD step that writes a cell, the last one too, writes the current cell's depth (R134). -/
theorem buildCell_tbl (algo : AlgorithmId) (s : State) :
    (s.buildCell algo).tbl = s.tbl.writeCell (cellBase s.i.toNat s.j.toNat s.k.toNat) (s.cellDepth algo) := by
  rcases buildCell_cases algo s with ⟨-, outcome⟩ | ⟨-, outcome⟩ <;> rw [outcome]
  · rw [State.advance_tbl, State.writeCell_tbl, State.cellDepth]
  · rw [State.finishBuild_tbl, State.advance_tbl, State.writeCell_tbl, State.cellDepth]

/-! ### The cells of a sweep -/

/-- In range, `K` is 0 at the row starts, the cells with a number divisible by 255 (R46, R136). -/
theorem k_eq_zero_iff (s : State) (range : s.countersInRange) : s.k = 0 ↔ s.cell % 255 = 0 := by
  obtain ⟨-, -, hk⟩ := range
  have zero : (0 : Byte).toNat = 0 := rfl
  rw [← BitVec.toNat_inj, State.cell, cellNumber, zero]
  omega

/-- In range, the last cell is the one with number 16,581,374 (R135). -/
theorem atLastCell_iff_cell (s : State) (range : s.countersInRange) :
    s.atLastCell = true ↔ s.cell = cellNumber 254 254 254 := by
  refine ⟨cellNumber_of_atLastCell s range, fun last => ?_⟩
  obtain ⟨-, hj, hk⟩ := range
  obtain ⟨hi, hj, hk⟩ := cellNumber_inj (by omega) (by omega) (by decide) (by decide) last
  exact (atLastCell_iff s).mpr ⟨hk.ge, hj.ge, hi.ge⟩

/-- `t` is `s` after SEQ has written the `n` cells from the current one on, none of them the last: the colours' depths
stand in those cells, the counter is `n` cells further, and nothing else has changed (R134, R135). -/
structure SweepTo (algo : AlgorithmId) (q a : Nat) (s : State) (n : Nat) (t : State) : Prop where
  frame : t = { s with tbl := t.tbl, i := t.i, j := t.j, k := t.k }
  range : t.countersInRange
  number : t.cell = s.cell + n
  written : ∀ i j k, i < 255 → j < 255 → k < 255 → s.cell ≤ cellNumber i j k → cellNumber i j k < s.cell + n →
    cellHolds t.tbl algo q a i j k
  kept : ∀ addr, addr < 3 * s.cell ∨ 3 * (s.cell + n) ≤ addr → t.tbl.stored addr = s.tbl.stored addr

/-- A cell holds its depth in every memory with the same three bytes there (R46). -/
theorem cellHolds_congr {m m' : Memory} {algo : AlgorithmId} {q a i j k : Nat}
    (same : ∀ b < 3, m'.stored (3 * cellNumber i j k + b) = m.stored (3 * cellNumber i j k + b))
    (holds : cellHolds m algo q a i j k) : cellHolds m' algo q a i j k := by
  obtain ⟨high, low, padding⟩ := holds
  exact ⟨(same 0 (by decide)).trans high, (same 1 (by decide)).trans low, (same 2 (by decide)).trans padding⟩

section

variable {algo : AlgorithmId} {q a n : Nat} {s t : State}

/-- Before any cell is written, nothing has changed. -/
theorem SweepTo.refl (range : s.countersInRange) : SweepTo algo q a s 0 s where
  frame := rfl
  range := range
  number := rfl
  written _ _ _ _ _ _ low below := by omega
  kept _ _ := rfl

/-- Two sweeps in a row are one: the second keeps the bytes that the first wrote. -/
theorem SweepTo.trans {u : State} {m : Nat} (first : SweepTo algo q a s m u) (second : SweepTo algo q a u n t) :
    SweepTo algo q a s (m + n) t where
  frame := by rw [second.frame, first.frame]
  range := second.range
  number := by rw [second.number, first.number, Nat.add_assoc]
  written i j k hi hj hk low high := by
    have between := first.number
    obtain early | late := Nat.lt_or_ge (cellNumber i j k) u.cell
    · exact cellHolds_congr (fun b hb => second.kept _ (by omega)) (first.written i j k hi hj hk low (by omega))
    · exact second.written i j k hi hj hk late (by omega)
  kept addr outside := by
    have between := first.number
    rw [second.kept addr (by omega), first.kept addr (by omega)]

/-- A sweep completes what the cells before it held (R134, R136). -/
theorem SweepTo.sweptBelow (sweep : SweepTo algo q a s n t) (before : sweptBelow s.tbl algo q a s.cell) :
    sweptBelow t.tbl algo q a t.cell := by
  intro i j k hi hj hk below
  rw [sweep.number] at below
  obtain early | late := Nat.lt_or_ge (cellNumber i j k) s.cell
  · exact cellHolds_congr (fun b hb => sweep.kept _ (by omega)) (before i j k hi hj hk early)
  · exact sweep.written i j k hi hj hk late below

/-- A sweep leaves the block running the command that it ran. -/
theorem SweepTo.running {c : Instr} (sweep : SweepTo algo q a s n t) (running : s.running c) : t.running c := by
  rw [sweep.frame]
  exact running

theorem SweepTo.abortReq (sweep : SweepTo algo q a s n t) : t.abortReq = s.abortReq := by
  rw [sweep.frame]

theorem SweepTo.agenda (sweep : SweepTo algo q a s n t) : t.agenda = s.agenda := by
  rw [sweep.frame]

end

/-- The step of a cell before the last one touches the table and the counter only (R134). -/
theorem writeCell_advance_eq (depth : Depth) (s : State) :
    (s.writeCell depth).advance =
      { s with tbl := (s.writeCell depth).advance.tbl, i := (s.writeCell depth).advance.i,
               j := (s.writeCell depth).advance.j, k := (s.writeCell depth).advance.k } := by
  unfold State.advance
  split_ifs <;> rfl

/-- Writing a cell before the last one is a sweep of one cell (R134, R135). -/
theorem sweepTo_buildCell {algo : AlgorithmId} {s : State} (range : s.countersInRange)
    (notLast : s.atLastCell = false) :
    SweepTo algo s.actQ.toNat s.actAb.toNat s 1 (s.buildCell algo) := by
  have table := buildCell_tbl algo s
  have outcome : s.buildCell algo = (s.writeCell (s.cellDepth algo)).advance := by
    rcases buildCell_cases algo s with ⟨-, outcome⟩ | ⟨last, -⟩
    · exact outcome
    · simp [notLast] at last
  refine ⟨?_, ?_, ?_, fun i j k hi hj hk low high => ?_, fun addr outside => ?_⟩
  · rw [outcome]
    exact writeCell_advance_eq _ s
  · rw [outcome]
    exact advance_countersInRange (s.writeCell _) range
  · rw [outcome]
    exact advance_cellNumber (s.writeCell _) range notLast
  · obtain ⟨-, hj', hk'⟩ := range
    obtain ⟨rfl, rfl, rfl⟩ :=
      cellNumber_inj hj hk (by omega) (by omega) (Nat.le_antisymm (Nat.lt_succ_iff.mp high) low)
    rw [table]
    exact cellHolds_writeCell _ _ _ _ _ _ _
  · rw [table]
    exact Memory.stored_writeCell_outside _ _ _ _ outside

/-! ### The three BUILD steps -/

section

variable {sel : BitVec 3} {q : BitVec 5} {ab : BitVec 4} {algo : AlgorithmId} {s : State}

/-- The BUILD step of a cell before the last one (R134, R135). -/
theorem exec_build_sweepTo (running : s.running (.build sel q ab)) (algorithm : algorithmOf sel = some algo)
    (range : s.countersInRange) (noAbort : ¬(s.abortReq = true ∧ s.k = 0)) (notLast : s.cell < 16581374) :
    ∃ t, exec (.build sel q ab) s = .next t ∧ SweepTo algo q.toNat ab.toNat s.yield 1 t := by
  obtain ⟨-, -, hq, hab⟩ := latches_of_running_build running
  have before : s.yield.atLastCell = false := by
    rw [yield_atLastCell, Bool.eq_false_iff, Ne, atLastCell_iff_cell s range, cellNumber_last]
    exact notLast.ne
  have rangeYield : s.yield.countersInRange := by simpa [State.countersInRange] using range
  have sweep := sweepTo_buildCell (algo := algo) rangeYield before
  rw [State.yield_actQ, State.yield_actAb, hq, hab] at sweep
  exact ⟨_, exec_build_cell running algorithm noAbort, sweep⟩

/-- The BUILD step of the last cell: the cell, the counter's wrap, the tag, and DONE (R22, R134). -/
theorem exec_build_last (running : s.running (.build sel q ab)) (algorithm : algorithmOf sel = some algo)
    (range : s.countersInRange) (last : s.cell = 16581374) :
    exec (.build sel q ab) s = .next
      { s.yield with
        tbl := s.tbl.writeCell (cellBase 254 254 254) (decodeColour algo 254 254 254 q.toNat ab.toNat),
        i := 0, j := 0, k := 0, abortReq := false, run := .done,
        tag := { valid := true, algo := sel, q := q, ab := ab } } := by
  have atLast := (atLastCell_iff_cell s range).mpr last
  obtain ⟨kEnd, jEnd, iEnd⟩ := (atLastCell_iff s).mp atLast
  obtain ⟨hi, hj, hk⟩ := range
  have hi : s.i = 254#8 := BitVec.eq_of_toNat_eq (hi.antisymm iEnd)
  have hj : s.j = 254#8 := BitVec.eq_of_toNat_eq (hj.antisymm jEnd)
  have hk : s.k = 254#8 := BitVec.eq_of_toNat_eq (hk.antisymm kEnd)
  obtain ⟨-, hsel, hq, hab⟩ := latches_of_running_build running
  rw [exec_build_cell running algorithm (by simp [hk])]
  rcases buildCell_cases algo s.yield with ⟨notLast, -⟩ | ⟨-, outcome⟩
  · simp [yield_atLastCell, atLast] at notLast
  · rw [outcome]
    simp [State.advance, State.finishBuild, State.writeTag, State.writeCell, hi, hj, hk, hsel, hq, hab]

/-- The BUILD step that takes the abort (R136). -/
theorem exec_build_abort (running : s.running (.build sel q ab)) (requested : s.abortReq = true) (rowStart : s.k = 0) :
    exec (.build sel q ab) s = .next { s.yield with abortReq := false, run := .aborted } := by
  have due : s.yield.abortDue = true := by simp [State.abortDue, requested, rowStart]
  rw [exec_of_running _ s running (by simp [encode]), ruleOf, buildStep, if_pos due]
  rfl

end

/-- Settles O37: the step is a sweep of one cell. -/
theorem buildStepWritesOneCell : Obligations.BuildStepWritesOneCell := by
  intro sel q ab algo s running algorithm hi hj hk noAbort notLast
  obtain ⟨t, step, sweep⟩ := exec_build_sweepTo running algorithm ⟨hi, hj, hk⟩ noAbort notLast
  have cell : s.yield.cell = s.cell := by simp [State.cell]
  have tbl : s.yield.tbl = s.tbl := State.yield_tbl s
  obtain ⟨frame, range, number, written, kept⟩ := sweep
  rw [cell] at number written kept
  rw [tbl] at kept
  exact ⟨t, step, frame, range, number,
    written _ _ _ (by omega) (by omega) (by omega) le_rfl (Nat.lt_succ_self _), kept⟩

/-- Settles O38: the whole effect of the last step, with the bytes of its cell. -/
theorem buildLastStepCompletes : Obligations.BuildLastStepCompletes := by
  intro sel q ab algo s running algorithm hi hj hk
  have range : s.countersInRange := by simp [State.countersInRange, hi, hj, hk]
  have last : s.cell = 16581374 := by rw [State.cell, hi, hj, hk]; rfl
  exact ⟨_, exec_build_last running algorithm range last, rfl, cellHolds_writeCell _ _ _ _ _ _ _,
    fun addr outside => Memory.stored_writeCell_outside _ _ _ _ outside⟩

/-- Settles O39: the abort is due, and comes before the cell. -/
theorem buildStepTakesTheAbort : Obligations.BuildStepTakesTheAbort :=
  fun _ _ _ _ running requested rowStart => exec_build_abort running requested rowStart

/-! ### Runs -/

theorem run_succ_of_step {M : Host.Core} {s t : M.State} (n : Nat) (h : M.step s = .next t) :
    M.run (n + 1) s = M.run n t := by
  rw [Host.Core.run, h]

/-- A run goes on with the step after it. -/
theorem run_succ_of_run {M : Host.Core} {m : Nat} {s t u : M.State} (run : M.run m s = .next t)
    (last : M.step t = .next u) : M.run (m + 1) s = .next u := by
  induction m generalizing s with
  | zero =>
    cases run
    exact run_succ_of_step 0 last
  | succ m ih =>
    unfold Host.Core.run at run
    split at run
    · rename_i first
      rw [run_succ_of_step (m + 1) first]
      exact ih run
    · cases run
    · cases run

/-- No abort is due at one of the `n` cells from the current one on (R136). -/
def State.noAbortWithin (s : State) (n : Nat) : Prop := s.abortReq = true → ∀ m < n, (s.cell + m) % 255 ≠ 0

section

variable {sel : BitVec 3} {q : BitVec 5} {ab : BitVec 4} {algo : AlgorithmId} {s : State}

/-- With the host idle, SEQ's next step of a running command is the command's meaning (R8, R134). -/
theorem step_of_running {c : Instr} (running : s.running c) (hostIdle : s.agenda = []) : core.step s = exec c s := by
  obtain ⟨-, busy, word, -⟩ := running
  exact stepRunsTheLatchedCommand s c (.inl hostIdle) busy word

/-- With the host idle, SEQ's move has nothing to take from the agenda (notes/assumptions/1.md). -/
theorem yield_of_hostIdle (hostIdle : s.agenda = []) : s.yield = s := by
  rw [State.yield_eq, State.yield_agenda_nil s hostIdle, ← hostIdle]

/-- With the host idle, `n` steps sweep `n` cells, if no abort is due at one of them and none is the last
(R134, R135, R136). -/
theorem run_sweepTo (running : s.running (.build sel q ab)) (algorithm : algorithmOf sel = some algo)
    (hostIdle : s.agenda = []) (range : s.countersInRange) (n : Nat) (notLast : s.cell + n ≤ 16581374)
    (noAbort : s.noAbortWithin n) : ∃ t : State, core.run n s = .next t ∧ SweepTo algo q.toNat ab.toNat s n t := by
  induction n with
  | zero => exact ⟨s, rfl, .refl range⟩
  | succ n ih =>
    obtain ⟨u, run, sweep⟩ := ih (by omega) fun requested m hm => noAbort requested m (by omega)
    have idleU : u.agenda = [] := sweep.agenda.trans hostIdle
    have noAbortU : ¬(u.abortReq = true ∧ u.k = 0) := by
      rintro ⟨requested, rowStart⟩
      rw [k_eq_zero_iff u sweep.range, sweep.number] at rowStart
      exact noAbort (sweep.abortReq ▸ requested) n (Nat.lt_succ_self n) rowStart
    obtain ⟨t, step, last⟩ := exec_build_sweepTo (sweep.running running) algorithm sweep.range noAbortU
      (by rw [sweep.number]; omega)
    rw [yield_of_hostIdle idleU] at last
    rw [← step_of_running (sweep.running running) idleU] at step
    exact ⟨t, run_succ_of_run run step, sweep.trans last⟩

/-- With the host idle, a build that meets no abort on its way to the last cell completes (R134, R136). -/
theorem run_build_completes (running : s.running (.build sel q ab)) (algorithm : algorithmOf sel = some algo)
    (hostIdle : s.agenda = []) (range : s.countersInRange) (n : Nat) (last : s.cell + n = 16581374)
    (noAbort : s.noAbortWithin n) :
    ∃ m : Memory, core.run (n + 1) s = .next
        { s with tbl := m, i := 0, j := 0, k := 0, abortReq := false, run := .done,
                 tag := { valid := true, algo := sel, q := q, ab := ab } } ∧
      (sweptBelow s.tbl algo q.toNat ab.toNat s.cell → tableHolds m algo q.toNat ab.toNat) := by
  obtain ⟨u, run, sweep⟩ := run_sweepTo running algorithm hostIdle range n last.le noAbort
  have idleU : u.agenda = [] := sweep.agenda.trans hostIdle
  have lastU : u.cell = cellNumber 254 254 254 := sweep.number.trans last
  have step := step_of_running (sweep.running running) idleU
  rw [exec_build_last (sweep.running running) algorithm sweep.range lastU, yield_of_hostIdle idleU] at step
  refine ⟨_, by rw [run_succ_of_run run step, sweep.frame], fun before => ?_⟩
  have swept := sweep.sweptBelow before
  rw [lastU] at swept
  exact tableHolds_of_sweptBelow _ _ _ _ (sweptBelow_writeCell _ _ _ _ _ _ _ (by decide) (by decide) swept)

end

/-- The state right after the acceptance of a BUILD whose write was all that the host had to do: BUSY with the BUILD
at the first cell, no abort requested (R20, R73, R132). -/
theorem step_build_accepted {sel : BitVec 3} {q : BitVec 5} {ab : BitVec 4} {s : State} {v : Nat} (idle : s.run ≠ .busy)
    (head : s.agenda = [.hostWrite 1 v]) (decoded : decodeWord (BitVec.ofNat 16 v) = .ok (.build sel q ab))
    (wellFormed : Instr.wellFormed (.build sel q ab) = true) :
    ∃ t, step s = .next t ∧ t.running (.build sel q ab) ∧ t.agenda = [] ∧ t.err = .none ∧ t.abortReq = false ∧
      t.i = 0 ∧ t.j = 0 ∧ t.k = 0 ∧ t.result = s.result ∧ t.operand = s.operand := by
  have accepted := validCommandIsLatched (.build sel q ab) s (cmdWritePending_of_head s v [] head) idle wellFormed
    (by simp [encode])
  have build : opField (encode (.build sel q ab)) = 0x8#4 := by simp [encode]
  rw [← stepRunsTheSubmittedCommand s v [] _ head decoded] at accepted
  refine ⟨_, accepted, ⟨?_, rfl, commandWord_fields _, wellFormed⟩, ?_, rfl, rfl, if_pos build, if_pos build,
    if_pos build, rfl, rfl⟩
  · simp [State.cmdWritePending, head]
  · simp [head]

/-- Settles O40: the acceptance, 16,581,374 cells, and the last one. -/
theorem buildFillsTheTable : Obligations.BuildFillsTheTable := by
  intro sel q ab algo s v idle head decoded wellFormed algorithm
  obtain ⟨u, accepted, running, hostIdle, err, abortReq, hi, hj, hk, result, operand⟩ :=
    step_build_accepted idle head decoded wellFormed
  have range : u.countersInRange := by simp [State.countersInRange, hi, hj, hk]
  have first : u.cell = 0 := by rw [State.cell, hi, hj, hk]; rfl
  obtain ⟨m, run, holds⟩ := run_build_completes running algorithm hostIdle range 16581374 (by rw [first])
    (by simp [State.noAbortWithin, abortReq])
  refine ⟨_, (run_succ_of_step (M := core) 16581375 accepted).trans run, rfl, err, rfl, rfl, rfl, rfl, result, operand,
    holds fun i j k _ _ _ below => ?_⟩
  rw [first] at below
  exact absurd below (Nat.not_lt_zero _)

/-- Settles O42: from inside the last row no row start is met before the last cell. -/
theorem abortInTheLastRowIsLost : Obligations.AbortInTheLastRowIsLost := by
  intro sel q ab s running hostIdle _ hi hj kPos kLe
  obtain ⟨algo, algorithm⟩ := exists_algorithm_of_running_build running
  have range : s.countersInRange := by simp [State.countersInRange, hi, hj, kLe]
  have cell : s.cell = 65025 * 254 + 255 * 254 + s.k.toNat := by rw [State.cell, hi, hj]; rfl
  obtain ⟨m, run, -⟩ := run_build_completes running algorithm hostIdle range (254 - s.k.toNat) (by omega)
    fun _ m hm => by omega
  rw [show 254 - s.k.toNat + 1 = 255 - s.k.toNat by omega] at run
  exact ⟨_, run, rfl, rfl, rfl, rfl, rfl, rfl⟩

/-- Settles O41: the rest of the row is a sweep, and the abort is due at the cell after it. -/
theorem abortStopsAtTheRowBoundary : Obligations.AbortStopsAtTheRowBoundary := by
  intro sel q ab algo s running algorithm hostIdle requested hi hj kPos kLe notLastRow
  have range : s.countersInRange := ⟨hi, hj, kLe⟩
  have cell : s.cell = 65025 * s.i.toNat + 255 * s.j.toNat + s.k.toNat := rfl
  obtain ⟨t, run, sweep⟩ := run_sweepTo running algorithm hostIdle range (255 - s.k.toNat) (by omega)
    fun _ m hm => by omega
  have rowEnd : s.cell + (255 - s.k.toNat) = cellNumber s.i.toNat s.j.toNat 255 := by
    rw [cell, cellNumber]
    omega
  have number : t.cell = cellNumber s.i.toNat s.j.toNat 255 := sweep.number.trans rowEnd
  have rowStart : t.k = 0 := by
    rw [k_eq_zero_iff t sweep.range, number, cellNumber]
    omega
  have nextRow : cellNumber t.i.toNat t.j.toNat 0 = t.cell := by rw [State.cell, rowStart]; rfl
  have idleT : t.agenda = [] := sweep.agenda.trans hostIdle
  have stop := step_of_running (sweep.running running) idleT
  rw [exec_build_abort (sweep.running running) (sweep.abortReq.trans requested) rowStart,
    yield_of_hostIdle idleT] at stop
  have stopped := run_succ_of_run run stop
  rw [show 255 - s.k.toNat + 1 = 256 - s.k.toNat by omega] at stopped
  have tag : t.tag = s.tag := by rw [sweep.frame]
  obtain ⟨iLe, jLe, -⟩ := sweep.range
  refine ⟨_, stopped, rfl, rfl, rowStart, tag, iLe, jLe, nextRow.trans number, fun before => ?_,
    fun k' low high => ?_, fun addr outside => ?_⟩
  · rw [nextRow]
    exact sweep.sweptBelow before
  · have inRow : s.cell ≤ cellNumber s.i.toNat s.j.toNat k' ∧
        cellNumber s.i.toNat s.j.toNat k' < s.cell + (255 - s.k.toNat) := by
      rw [cell, cellNumber]
      omega
    exact sweep.written _ _ _ (by omega) (by omega) high inRow.1 inRow.2
  · refine sweep.kept addr ?_
    rw [rowEnd]
    exact outside

/-! ### A cell and the single DECODE of its colour -/

/-- The bytes of `RESULT` are those of its depth, and nothing stands above them (R16, R65). -/
theorem packDepth_bytes (depth : Depth) :
    (packDepth depth).extractLsb' 8 8 = depth.extractLsb' 8 8 ∧
      (packDepth depth).extractLsb' 0 8 = depth.extractLsb' 0 8 ∧ (packDepth depth).toNat < 65536 := by
  have value : (packDepth depth).toNat = depth.toNat := BitVec.toNat_setWidth_of_le (by decide)
  refine ⟨BitVec.eq_of_toNat_eq ?_, BitVec.eq_of_toNat_eq ?_, ?_⟩
  · rw [BitVec.extractLsb'_toNat, BitVec.extractLsb'_toNat, value]
  · rw [BitVec.extractLsb'_toNat, BitVec.extractLsb'_toNat, value]
  · rw [value]
    exact depth.isLt

/-- Settles O43: both are the multiplexer's depth of the three channels. -/
theorem cellAgreesWithSingleDecode : Obligations.CellAgreesWithSingleDecode := by
  intro sel q ab algo s u runningS algorithm runningU noAbort operand
  have hj := s.j.isLt
  have hk := s.k.isLt
  have channels : u.actOpnd.toNat / 65536 = s.i.toNat ∧ u.actOpnd.toNat / 256 % 256 = s.j.toNat ∧
      u.actOpnd.toNat % 256 = s.k.toNat := by omega
  obtain ⟨red, green, blue⟩ := channels
  have table := buildCell_tbl algo s.yield
  rw [yield_cellDepth, cellDepth_of_running algo runningS, State.yield_i, State.yield_j, State.yield_k] at table
  obtain ⟨high, low, -⟩ := cellHolds_writeCell s.yield.tbl algo q.toNat ab.toNat s.i.toNat s.j.toNat s.k.toNat
  have decode := exec_decodeCommand algo q ab u runningU
  rw [red, green, blue] at decode
  refine ⟨_, _, exec_build_cell runningS algorithm noAbort, decode, ?_⟩
  obtain ⟨highByte, lowByte, fits⟩ :=
    packDepth_bytes (decodeColour algo s.i.toNat s.j.toNat s.k.toNat q.toNat ab.toNat)
  rw [State.complete_result, table, highByte, lowByte]
  exact ⟨high, low, fits⟩

/-! ### ABORT -/

/-- Settles O14: acceptance's two cases for ABORT's opcode. -/
theorem abortOnlyRequests : Obligations.AbortOnlyRequests := by
  intro sel q ab s pending
  have abort : opField (encode (.abort sel q ab)) = 0x9#4 := by simp [encode]
  rw [exec_offered _ s pending, accept, abort, if_pos rfl, if_pos rfl]
  by_cases busy : s.run = .busy
  · rw [if_pos busy, if_pos (show s.consume.run = .busy from busy)]
    rfl
  · rw [if_neg busy, if_neg (show s.consume.run ≠ .busy from busy)]
    rfl

end Sys2Proof.Machine
end

section
/-! PROOFS. The statements of 60_exceptions.md: rejection and its error codes, overrun, and that an accepted command
cannot fail. -/

namespace Sys2Proof.Machine

/-! ### What the check reports -/

/-- `IllegalCommand` comes first in the check: only the opcode counts (R151, R154). -/
theorem check_eq_illegalCommand_iff (op : BitVec 4) (sel : BitVec 3) (q : BitVec 5) (ab : BitVec 4) :
    check op sel q ab = .illegalCommand ↔ op.toNat = 0 ∨ 10 ≤ op.toNat := by
  rw [check_eq]
  split_ifs with reserved <;> simp [reserved]

/-- `UnknownAlgorithmError` is for algorithm 7 under DECODE and BUILD, whatever the configuration (R151, R153). -/
theorem check_eq_unknownAlgorithmError_iff (op : BitVec 4) (sel : BitVec 3) (q : BitVec 5) (ab : BitVec 4) :
    check op sel q ab = .unknownAlgorithmError ↔ (op.toNat = 7 ∨ op.toNat = 8) ∧ sel.toNat = 7 := by
  rw [check_eq]
  split_ifs with reserved unknown
  · simp only [false_iff]
    omega
  all_goals simp [unknown]

/-- The check reads `SEL` under DECODE and BUILD only (R151, R153). -/
theorem check_sel_congr {op : BitVec 4} (notDecode : op ≠ 0x7#4) (notBuild : op ≠ 0x8#4) (sel sel' : BitVec 3)
    (q : BitVec 5) (ab : BitVec 4) : check op sel q ab = check op sel' q ab := by
  simp [check, cfgValid, notDecode, notBuild]

/-- The two opcodes and the one `SEL` of `UnknownAlgorithmError`, in the number the host writes (R13, R153). -/
theorem checkWord_ofNat_eq_unknownAlgorithmError_iff (v : Nat) :
    checkWord (BitVec.ofNat 16 v) = .unknownAlgorithmError ↔
      (v / 4096 % 16 = 7 ∨ v / 4096 % 16 = 8) ∧ v / 512 % 8 = 7 := by
  rw [checkWord, check_eq_unknownAlgorithmError_iff, opField_ofNat_toNat, selField_ofNat_toNat]

/-- A word that passes the check is a command (R68, R151). -/
theorem exists_command_of_checkWord {w : Word} (passed : checkWord w = .none) : ∃ c, decodeWord w = .ok c := by
  cases decoded : decodeWord w with
  | ok c => exact ⟨c, rfl⟩
  | error e =>
    rcases (decodeWord_eq_error_iff w e).mp decoded with ⟨reserved, -⟩ | ⟨decode, seven, -⟩
    · simp [checkWord, (check_eq_illegalCommand_iff _ _ _ _).mpr reserved] at passed
    · simp [checkWord, (check_eq_unknownAlgorithmError_iff _ _ _ _).mpr ⟨.inl decode, seven⟩] at passed

/-! ### Acceptance, by its error -/

section

variable {op : BitVec 4} {s : State} (sel : BitVec 3) (q : BitVec 5) (ab : BitVec 4)

/-- Acceptance rejects what the check does not pass (R73, R156). -/
theorem accept_of_failed (idle : s.run ≠ .busy) (notAbort : op ≠ 0x9#4) (failed : check op sel q ab ≠ .none) :
    accept op sel q ab s = s.clearOvr.errorEntry (check op sel q ab) := by
  rw [accept, if_neg idle, if_neg notAbort, if_neg failed]

/-- `ERR` after acceptance outside BUSY is the check's answer, 0 for a word that passes (R73, R156, R157). -/
theorem accept_err_of_checked (idle : s.run ≠ .busy) (notAbort : op ≠ 0x9#4) :
    (accept op sel q ab s).err = check op sel q ab := by
  rcases accept_cases op sel q ab s with ⟨busy, -⟩ | ⟨busy, -⟩ | ⟨-, abort, -⟩ | ⟨-, -, passed, -, outcome⟩ |
    ⟨-, -, passed, -, outcome⟩ | ⟨-, -, -, outcome⟩
  · exact absurd busy idle
  · exact absurd busy idle
  · exact absurd abort notAbort
  · rw [outcome, passed]; rfl
  · rw [outcome, passed]; rfl
  · rw [outcome]; rfl

/-- ABORT leaves `ERR`, whether it requests an abort or clears `OVR` (R138, R157). -/
theorem accept_abort_err (s : State) : (accept 0x9#4 sel q ab s).err = s.err := by
  by_cases busy : s.run = .busy
  · rw [accept, if_pos busy, if_pos rfl, State.requestAbort_err]
  · rw [accept, if_neg busy, if_pos rfl, State.clearOvr_err]

/-- Outside DECODE and BUILD `SEL` reaches nothing but its own latch (R69, R153). -/
theorem accept_sel_congr (notDecode : op ≠ 0x7#4) (notBuild : op ≠ 0x8#4) (sel' : BitVec 3) :
    { accept op sel' q ab s with actSel := (accept op sel q ab s).actSel } = accept op sel q ab s := by
  simp only [accept, check_sel_congr notDecode notBuild sel' sel, if_neg notBuild]
  split_ifs <;> rfl

end

/-! ### A submitted word, by its error -/

/-- A host write to `CMD` of a word that the check does not pass: error entry, and nothing else (R156). -/
theorem step_of_rejected (s : State) (v : Nat) (rest : List AgentAction) (head : s.agenda = .hostWrite 1 v :: rest)
    (idle : s.run ≠ .busy) (notAbort : v / 4096 % 16 ≠ 9) {e : ErrCode} (checked : checkWord (BitVec.ofNat 16 v) = e)
    (error : e ≠ .none) :
    step s = .next { s with agenda := rest, ovr := false, run := .error, err := e, result := 0 } := by
  subst checked
  have notAbort' := (opField_ofNat_eq_abort_iff v).not.mpr notAbort
  rw [step_of_submit s v rest head,
    accept_of_failed (s := { s with agenda := rest }) _ _ _ idle notAbort' error]
  rfl

/-- Two words that differ in `SEL` alone, each written in the same state (R69, R153). -/
theorem step_sel_congr (s : State) (v v' : Nat) (rest : List AgentAction) (head : s.agenda = .hostWrite 1 v :: rest)
    (sameOp : v / 4096 % 16 = v' / 4096 % 16) (sameLow : v % 512 = v' % 512) (notDecode : v / 4096 % 16 ≠ 7)
    (notBuild : v / 4096 % 16 ≠ 8) :
    ∃ t t' : State, step s = .next t ∧ step { s with agenda := .hostWrite 1 v' :: rest } = .next t' ∧
      { t' with actSel := t.actSel } = t := by
  refine ⟨_, _, step_of_submit s v rest head, step_of_submit _ v' rest rfl, ?_⟩
  have op : opField (BitVec.ofNat 16 v') = opField (BitVec.ofNat 16 v) := by rw [opField_ofNat, opField_ofNat, sameOp]
  have q : qField (BitVec.ofNat 16 v') = qField (BitVec.ofNat 16 v) := by
    rw [qField_ofNat, qField_ofNat, show v' / 16 % 32 = v / 16 % 32 by omega]
  have ab : abField (BitVec.ofNat 16 v') = abField (BitVec.ofNat 16 v) := by
    rw [abField_ofNat, abField_ofNat, show v' % 16 = v % 16 by omega]
  have notDecode' : opField (BitVec.ofNat 16 v) ≠ 0x7#4 := fun h => notDecode (by rw [← opField_ofNat_toNat, h]; rfl)
  have notBuild' := (opField_ofNat_eq_build_iff v).not.mpr notBuild
  rw [op, q, ab]
  exact accept_sel_congr _ _ _ notDecode' notBuild' _

/-! ### An accepted command cannot fail -/

theorem cmdWritePending_of_sequencerNext {s : State} (turn : s.sequencerNext) : s.cmdWritePending = false := by
  obtain hnil | ⟨rest, hseq⟩ := turn
  · simp [State.cmdWritePending, hnil]
  · simp [State.cmdWritePending, hseq]

/-- In SEQ's turn, a BUSY block under the invariant runs some command other than ABORT (R24, R131). -/
theorem State.Inv.exists_running {s : State} (inv : s.Inv) (turn : s.sequencerNext) (busy : s.run = .busy) :
    ∃ c, s.running c ∧ opField (encode c) ≠ 0x9#4 := by
  obtain ⟨notAbort, passed⟩ := inv.latchesAccepted busy
  obtain ⟨c, decoded⟩ : ∃ c, decodeWord s.latchedWord = .ok c :=
    exists_command_of_checkWord (by simpa [checkWord, State.latchedWord] using passed)
  have word := encode_of_decodeWord s.latchedWord c decoded
  obtain ⟨hop, hsel, hq, hab⟩ := (latchedWord_eq_iff s (encode c)).mp word.symm
  rw [hop] at notAbort
  rw [hop, hsel, hq, hab] at passed
  exact ⟨c, ⟨cmdWritePending_of_sequencerNext turn, busy, word.symm, (check_encode_eq_none_iff c notAbort).mp passed⟩,
    notAbort⟩

/-- SEQ's step of a running command goes on (R131, R134, R159). -/
theorem exec_progress_of_running {c : Instr} {s : State} (running : s.running c)
    (notAbort : opField (encode c) ≠ 0x9#4) : ∃ t, exec c s = .next t := by
  by_cases build : opField (encode c) = 0x8#4
  · cases c with
    | build sel q ab =>
      by_cases due : s.abortReq = true ∧ s.k = 0
      · obtain ⟨requested, rowStart⟩ := due
        exact ⟨_, exec_build_abort running requested rowStart⟩
      · obtain ⟨algo, algorithm⟩ := exists_algorithm_of_running_build running
        exact ⟨_, exec_build_cell running algorithm due⟩
    | _ => simp [encode] at build
  · obtain ⟨g, completes⟩ := exec_single_of_running c build notAbort
    exact ⟨_, completes s running⟩

/-- Under the invariant SEQ's move goes on, whether or not the block is BUSY (R131, R159, R164). -/
theorem step_progress_of_sequencerNext {s : State} (inv : s.Inv) (turn : s.sequencerNext) : ∃ t, step s = .next t := by
  rw [step_of_sequencerNext s turn]
  by_cases busy : s.run = .busy
  · obtain ⟨c, running, notAbort⟩ := inv.exists_running turn busy
    have progress := exec_progress_of_running running notAbort
    obtain ⟨-, -, word, -⟩ := running
    rwa [sequencerMove_of_busy s c busy word]
  · exact ⟨_, sequencerMove_of_not_busy s busy⟩

/-! ### The statements -/

/-- Settles O9: the check of an ill-formed command names its error, and acceptance enters it. -/
theorem invalidCommandIsRejected : Obligations.InvalidCommandIsRejected := by
  intro c s pending idle illFormed
  have notAbort : opField (encode c) ≠ 0x9#4 := by
    cases c with
    | abort sel q ab => cases illFormed
    | _ => simp [encode]
  have checked := checkAgrees c notAbort
  rw [illFormed, if_neg Bool.false_ne_true] at checked
  have failed : check (opField (encode c)) (selField (encode c)) (qField (encode c)) (abField (encode c)) ≠ .none := by
    rw [checked]
    split_ifs <;> simp
  rw [exec_offered c s pending, accept_of_failed (s := s.consume) _ _ _ idle notAbort failed, checked]
  rfl

/-- Settles O10: the check looks at the opcode before any other field. -/
theorem reservedOpcodeIsIllegalCommand : Obligations.ReservedOpcodeIsIllegalCommand := by
  intro s v rest head idle reserved
  have checked : checkWord (BitVec.ofNat 16 v) = .illegalCommand := by
    rwa [checkWord, check_eq_illegalCommand_iff, opField_ofNat_toNat]
  exact step_of_rejected s v rest head idle (by omega) checked nofun

/-- Settles O11: where the check reports algorithm 7, where it cannot, ABORT, and the words that differ in `SEL`. -/
theorem unknownAlgorithmIsRejected : Obligations.UnknownAlgorithmIsRejected := by
  refine ⟨?_, ?_, ?_, step_sel_congr⟩
  · intro s v rest head idle decodeOrBuild seven
    exact step_of_rejected s v rest head idle (by omega)
      ((checkWord_ofNat_eq_unknownAlgorithmError_iff v).mpr ⟨decodeOrBuild, seven⟩) nofun
  · intro s t v rest head idle known notAbort hstep
    rw [step_of_submit s v rest head] at hstep
    cases hstep
    have notAbort' := (opField_ofNat_eq_abort_iff v).not.mpr notAbort
    rw [accept_err_of_checked (s := { s with agenda := rest }) _ _ _ idle notAbort']
    exact (checkWord_ofNat_eq_unknownAlgorithmError_iff v).not.mpr known
  · intro s t v rest head abort hstep
    rw [step_of_submit s v rest head, (opField_ofNat_eq_abort_iff v).mpr abort] at hstep
    cases hstep
    exact accept_abort_err _ _ _ _

/-- Settles O12: the drop of `step_of_dropped`, which O13 states too. -/
theorem busyBlockDropsCommands : Obligations.BusyBlockDropsCommands := step_of_dropped

/-- Settles O47: an access goes on or is refused by its number, a submitted word is always answered, a reset always
goes on, and SEQ's move does so under the invariant. -/
theorem onlyMissingAccessesStopTheBlock : Obligations.OnlyMissingAccessesStopTheBlock := by
  intro s inv
  rcases head : s.agenda with _ | ⟨action, rest⟩
  · exact .inl (step_progress_of_sequencerNext inv (.inl head))
  cases action with
  | hostRead n =>
    rw [step_of_hostRead s n rest head]
    rcases readRegister_cases n s with ⟨-, v, -, answered⟩ | ⟨above, refused⟩
    · exact .inl ⟨_, answered⟩
    · exact .inr (.inl ⟨n, rest, rfl, above, refused⟩)
  | hostWrite n v =>
    rw [step_of_hostWrite s n v rest head]
    rcases writeRegister_cases n v s with ⟨-, written⟩ | ⟨rfl, submitted⟩ | ⟨-, -, ignored⟩ | ⟨above, refused⟩
    · exact .inl ⟨_, written⟩
    · exact .inl ⟨_, submitted.trans (submitWord_offered _ s (cmdWritePending_of_head s v rest head))⟩
    · exact .inl ⟨_, ignored⟩
    · exact .inr (.inr (.inl ⟨n, v, rest, rfl, above, refused⟩))
  | tblRead addr =>
    rw [step_of_tblRead s addr rest head]
    rcases readTable_cases addr s with ⟨-, -, outcome⟩ | ⟨-, -, outcome⟩ | ⟨outside, refused⟩
    · exact .inl ⟨_, outcome⟩
    · exact .inl ⟨_, outcome⟩
    · exact .inr (.inr (.inr ⟨addr, rest, rfl, outside, refused⟩))
  | reset => exact .inl ⟨_, step_of_reset s rest head⟩
  | seq => exact .inl (step_progress_of_sequencerNext inv (.inr ⟨rest, head⟩))

end Sys2Proof.Machine
end
